-- ==== Sys2Proof/Word.lean ====
section
/-! DEFINITION. The word types of the TC-16 and the fixed-size table every block of the part keeps its records in. -/

namespace Sys2Proof

/-- A byte of a frame, a record or the store. -/
abbrev Byte := BitVec 8

/-- A 16-bit quantity as it stands in a request, a reading or an audio frame. -/
abbrev Half := BitVec 16

/-- Site time: a 32-bit count of seconds (04 R66). -/
abbrev Time := BitVec 32

/-- A fixed number of like records, indexed from 0: the fleet table, the slot records, the channel records and so on. -/
structure Table (α : Type) (n : Nat) where
  cells : List α
  size  : cells.length = n
  deriving DecidableEq, Repr

namespace Table

variable {α β : Type} {n : Nat}

/-- The record at index i. -/
def get (t : Table α n) (i : Fin n) : α :=
  t.cells[i.val]'(by rw [t.size]; exact i.isLt)

/-- The table with x at index i. -/
def set (t : Table α n) (i : Fin n) (x : α) : Table α n :=
  { cells := t.cells.set i.val x, size := by simp [t.size] }

/-- The table with f applied to the record at index i. -/
def upd (t : Table α n) (i : Fin n) (f : α → α) : Table α n :=
  t.set i (f (t.get i))

/-- The table with f applied to every record. -/
def map (f : α → β) (t : Table α n) : Table β n :=
  { cells := t.cells.map f, size := by simp [t.size] }

/-- The table that holds f i at every index i. -/
def ofFn (f : Fin n → α) : Table α n :=
  { cells := List.ofFn f, size := List.length_ofFn }

/-- The table that holds x at every index. -/
def fill (x : α) : Table α n :=
  { cells := List.replicate n x, size := List.length_replicate }

end Table

end Sys2Proof
end

