-- ==== Sys2Proof/Syntax.lean ====
section
/-! DEFINITION. The commands of the TC-16: one constructor of Instr for each row of spec/opcode_table.json, with the types of
their operands. Numbers the manual checks (a rack, a channel, a group of a request) are plain Nats, so that a value outside
the range can be sent and refused. A code outside a list is none. -/

namespace Sys2Proof

/-! ## Numbers (00_scope 4.3) -/

abbrev UnitNo := Fin 256
abbrev RackNo := Fin 4
/-- A slot within its rack. -/
abbrev SlotNo := Fin 16
abbrev ChanNo := Fin 12
/-- Group g + 1 of the manual: the twelve records are 1..12 there and 0..11 here. -/
abbrev GroupNo := Fin 12
abbrev PlayerNo := Fin 6
abbrev BlockNo := Fin 256
/-- An input source 0..15. -/
abbrev SourceNo := Fin 16

/-! ## Operand types -/

/-- The three ports (00_scope 1.1). -/
inductive PortId where
  | desk | transmitter | operations
  deriving DecidableEq, Repr

/-- The port a request came from, and whether its parameter bytes fit the form of its command: 11 R186 answers BAD_LENGTH to
'parameters that do not fit its form'. The manual gives no byte layout of parameters, so the fit is an operand;
the number of bytes is judged besides where the manual gives one (log 1). -/
structure Req where
  port : PortId
  fits : Bool
  deriving DecidableEq, Repr

/-- A two-character language tag, first character first (08 R137). The tag 0 is both characters 0 (log 15). -/
structure Lang where
  first  : Byte
  second : Byte
  deriving DecidableEq, Repr

/-- The kinds a unit may be enrolled as (01 R6). -/
inductive UnitKind where
  | receiver | guideMic
  deriving DecidableEq, Repr

/-- The four fields Select Units can test (01 R17). -/
inductive SelectField where
  | charge | cycleCount | heardAge | leaseRemaining
  deriving DecidableEq, Repr

/-- The eight relations of 01 R19, in the order of their codes. -/
inductive Relation where
  | eq | ne | hi | ls | gt | le | ge | lt
  deriving DecidableEq, Repr

/-- The mark tests of 01 R17. -/
inductive MarkTest where
  | off | allSet | anyClear
  deriving DecidableEq, Repr

/-- The parameters of Select Units (01 R17). A field, relation or mark test outside its list is none. -/
structure SelectQuery where
  inSlot : Bool
  releasing : Bool
  issued : Bool
  loose : Bool
  start : UnitNo
  field : Option SelectField
  relation : Option Relation
  operand : BitVec 32
  markTest : Option MarkTest
  mask : Byte
  deriving DecidableEq, Repr

/-- One telemetry record of Report Units (01 R13). -/
structure UnitReport where
  unit : UnitNo
  charge : Half
  signal : Byte
  heard : Bool
  deriving DecidableEq, Repr

/-- One record of Report Guide Links (06 R108). -/
structure LinkReport where
  input : Nat
  present : Bool
  unit : UnitNo
  quality : Byte
  deriving DecidableEq, Repr

/-- The eight charge settings of 02 R47. -/
structure ChargeSettings where
  precharge : Nat
  bulk : Nat
  topoff : Nat
  taper : Nat
  receiverCapacity : Nat
  micCapacity : Nat
  lowThreshold : Nat
  serviceLimit : Nat
  deriving DecidableEq, Repr

/-- The four issue settings of 04 R65. -/
structure IssueSettings where
  leaseDuration : Nat
  latchWindow : Nat
  returnGrace : Nat
  readyThreshold : Nat
  deriving DecidableEq, Repr

/-- A set of the four monitors of 02 R40. -/
structure Monitors where
  voltHigh : Bool
  voltLow : Bool
  tempHigh : Bool
  tempLow : Bool
  deriving DecidableEq, Repr

/-- The channel modes of 06 R101. -/
inductive ChannelMode where
  | disabled | group | fixed
  deriving DecidableEq, Repr

/-- One mix list entry as a request or a record carries it (06 R101): a source number and a gain in 1/16384. -/
structure MixEntry where
  source : Nat
  gain : Half
  deriving DecidableEq, Repr

/-- The configured fields of a channel as Set Channel carries them (06 R103). A mode outside its list is none; a hold clip of 0
is absent. -/
structure ChannelForm where
  mode : Option ChannelMode
  language : Lang
  fixedSource : Nat
  primaryGain : Half
  mixList : List MixEntry
  announceGain : Half
  duckLevel : Nat
  holdClip : Nat
  masterGain : Half
  floorGain : Half
  deriving DecidableEq, Repr

/-- The two clip classes of 08 R135. -/
inductive ClipClass where
  | standard | emergency
  deriving DecidableEq, Repr

/-- The site code, default clip and language tags a record save writes, the thirteen-byte form of Save Site Record (12 R209). -/
structure SaveForm where
  siteCode : Nat
  defaultClip : Nat
  languages : Table Lang 5
  deriving DecidableEq, Repr

/-- The three enable straps as sampled (11 R194). -/
structure Straps where
  desk : Bool
  transmitter : Bool
  operations : Bool
  deriving DecidableEq, Repr

/-- One slot reading as it arrives on the rack link (02 R24). -/
structure Reading where
  present : Bool
  voltage : Half
  temperature : Half
  current : Half
  deriving DecidableEq, Repr

/-! ## The commands -/

/-- The commands of the part, in the order of spec/opcode_table.json: requests, transfers, then events. -/
inductive Instr where
  -- requests every port may send
  | identify (r : Req)
  | fetchNotices (r : Req)
  | readUnit (r : Req) (unit : UnitNo)
  | selectUnits (r : Req) (q : SelectQuery)
  | readGroup (r : Req) (group : Nat)
  | readRack (r : Req) (rack : Nat)
  | readChannelPlan (r : Req) (part : Nat)
  | readDirectory (r : Req) (start : Nat) (detail : Bool)
  -- Desk port
  | issueUnit (r : Req) (group channel : Nat)
  | openGroup (r : Req) (mic : UnitNo) (channel : Nat)
  | closeGroup (r : Req) (group : Nat)
  | moveGroup (r : Req) (group channel : Nat)
  | setUnitMarks (r : Req) (unit : UnitNo) (clearMask setMask : Byte)
  -- Transmitter port
  | reportUnits (r : Req) (records : List UnitReport)
  | reportGuideLinks (r : Req) (records : List LinkReport)
  | fetchTuneOrders (r : Req)
  | readTuneMap (r : Req) (page : Nat) (restart : Bool)
  -- Operations port
  | enrolUnit (r : Req) (unit : UnitNo) (kind : Option UnitKind) (serial : BitVec 32) (marks : Byte) (cycles : Half)
  | retireUnit (r : Req) (unit : UnitNo)
  | unenrolUnit (r : Req) (unit : UnitNo)
  | setRackBudget (r : Req) (rack budget : Nat)
  | setChargeSettings (r : Req) (settings : ChargeSettings)
  | setIssueSettings (r : Req) (settings : IssueSettings)
  | forceMonitor (r : Req) (rack slot : Nat) (monitors : Monitors)
  | clearSlotFault (r : Req) (rack slot : Nat)
  | setChannel (r : Req) (channel : Nat) (form : ChannelForm)
  | setTime (r : Req) (time : Time)
  | startAnnouncement (r : Req) (clip loops : Nat) (channels : List Nat)
  | stopPlayer (r : Req) (player : Nat)
  | raiseEmergency (r : Req)
  | clearEmergency (r : Req)
  | beginClip (r : Req) (clip : Nat) (language : Lang) (cls : Option ClipClass)
  | appendAudio (r : Req) (clip : Nat) (codes : List Byte)
  | sealClip (r : Req) (clip : Nat)
  | deleteClip (r : Req) (clip : Nat)
  | eraseBlock (r : Req) (block : Nat)
  | suspendStore (r : Req)
  | resumeStore (r : Req)
  | readStore (r : Req) (block : BlockNo) (offset length : Nat)
  | protectGroup (r : Req) (group : Nat)
  | unprotectGroup (r : Req) (group : Nat)
  | saveSiteRecord (r : Req) (form : Option SaveForm)
  | setPortOptions (r : Req) (port : Nat) (mask : BitVec 24) (attention invert : Bool)
  | resetPart (r : Req)
  -- transfers
  | frameWrite (port : PortId) (bytes : List Byte)
  | readTransfer (port : PortId) (clocked : Nat)
  | ignoredTransfer (port : PortId) (code : Byte)
  -- the rack link
  | rackPoll
  | rackAnswer (rack : RackNo) (readings : Table Reading 16)
  | missedPoll (rack : RackNo)
  | slotReading (rack : RackNo) (slot : SlotNo) (reading : Reading)
  | serialArrived (rack : RackNo) (slot : SlotNo) (serial : BitVec 32)
  | identifyTimeout (rack : RackNo) (slot : SlotNo)
  | latchWindowExpiry (rack : RackNo) (slot : SlotNo)
  -- clocks
  | siteClockAdvance
  | audioFrame (codes : Table Half 16)
  | mixWindowEnd
  -- the store and its read path
  | readPathServe
  | refillLand
  | readStoreComplete
  /-- faults: bytes of the operation (address in the array, value) that read back otherwise than 08 R136 gives them (log 9) -/
  | programDone (faults : List (Nat × Byte))
  | gatheringWindowExpiry
  /-- faults: as for programDone, among the pending marks -/
  | pendingMarksDone (faults : List (Nat × Byte))
  /-- left: bytes of the block (offset, value) that the erase did not bring to 0xFF (log 9) -/
  | blockEraseDone (left : List (Nat × Byte))
  | suspensionComplete
  | quietTimerExpiry
  | recordSaveDone
  -- pins and resets
  | evacuationInputChange (active : Bool)
  | serviceKeyChange (held : Bool)
  | powerOn (straps : Straps)
  | resetLineAssert
  | resetLineRelease (straps : Straps)
  | startupEnd
  deriving DecidableEq, Repr

end Sys2Proof
end

