-- ==== Sys2Proof/Decode.lean ====
section
/-! DEFINITION. Words. No row of spec/opcode_table.json gives bits to a command, so no word spells one: a request reaches its owner
through the port that admitted its frame (11 R186), and 11 R193's codes are read there (Machine/Flags.lean). -/

namespace Sys2Proof

/-- The command that a word spells by the opcode table's bits: none, since the table gives no row any. -/
def decodeTableWord (_nbits _w : Nat) : Option Instr := none

end Sys2Proof
end

