-- ==== Sys2Proof/Config.lean ====
section
/-! DEFINITION. What one TC-16 fixes and the manual does not: the free values. Each is an opaque constant with no body, so
no proof can lean on what it is; every statement that meets one holds whatever it is. -/

namespace Sys2Proof

/-- The fixed four-byte signature of a site record (12 R203), least significant byte first. The manual does not state it
(log 4). A record is matched with recordSignature, whose first byte is never the pending mark (log 48). DESIGN CHOICE, free. -/
opaque Config.signature : BitVec 32

/-- The bits of a byte that a program operation cut short had not yet programmed: a bit that is 1 here was not reached
(12 R208 and 08 R159 cut programs short and say no more than 'as programmed so far'). The first argument is the State's
free counter, the second the byte's address in the array (log 10). DESIGN CHOICE, free. -/
opaque Config.unprogrammed : Nat → Nat → Byte

/-- Whether a byte of a block whose erase was interrupted reads as erased: 08 R154 lets it read either as before the erase
or as 0xFF. The first argument is the State's free counter, the second the byte's address (log 10). DESIGN CHOICE, free. -/
opaque Config.erasedSoFar : Nat → Nat → Bool

/-- Whether a pending mark had been made when Protect Group dropped its block, or a reset came, while the marks were being made (08 R156
and R159 give the block's state for both cases and not which). The first argument is the State's free counter, the second the
block (log 23). DESIGN CHOICE, free. -/
opaque Config.markMade : Nat → Nat → Bool

end Sys2Proof
end

