-- ==== Sys2Proof/Machine/State.lean ====
section
/-! DEFINITION. The state of the TC-16 as plain data: every piece of state the manual gives the part, block by block, the
reasons a step can stop, and the state after reset. -/

namespace Sys2Proof.Machine

/-- A slot among the 64, as rack * 16 + slot (11 R191). -/
abbrev SlotIx := Fin 64

/-! ## Fleet table (01) -/

/-- The kind of a fleet entry (01 R1). -/
inductive EntryKind where
  | vacant | receiver | guideMic
  deriving DecidableEq, Repr

/-- The four locations of 01 R2. -/
inductive Location where
  | inSlot | releasing | issued | loose
  deriving DecidableEq, Repr

/-- One fleet entry (01 R1). SERVICE_DUE is derived, never stored (01 R11). -/
structure UnitEntry where
  kind : EntryKind
  serial : BitVec 32
  location : Location
  slot : Option SlotIx
  group : Option GroupNo
  channel : Option ChanNo
  deadline : Option Time
  charge : Nat
  lastHeard : Option Time
  signal : Option Nat
  cycles : Nat
  marks : Byte
  retired : Bool
  batteryFault : Bool
  overdue : Bool
  lowReported : Bool
  assigned : Option GroupNo
  deriving DecidableEq, Repr

/-- A VACANT entry: the vacant values of 01 R1. -/
def vacantEntry : UnitEntry :=
  { kind := .vacant, serial := 0, location := .loose, slot := none, group := none, channel := none, deadline := none,
    charge := 0, lastHeard := none, signal := none, cycles := 0, marks := 0, retired := false, batteryFault := false,
    overdue := false, lowReported := false, assigned := none }

/-! ## Slots and racks (02, 03) -/

/-- The eleven slot states, in the order of 02 R28's list. -/
inductive SlotState where
  | empty | identify | precharge | waitBudget | bulk | topoff | full | ready | releasing | fault | offline
  deriving DecidableEq, Repr

/-- The phases a slot can wait for (02 R34). -/
inductive Phase where
  | precharge | bulk | topoff
  deriving DecidableEq, Repr

/-- What a slot records as its occupant (02 R28); serial 0 is unreadable. -/
inductive Occupant where
  | none
  | enrolled (unit : UnitNo)
  | unenrolled (serial : BitVec 32)
  deriving DecidableEq, Repr

/-- The indicator codes of 02 R28. -/
inductive Indicator where
  | dark | charging | charged | ready | take | fault
  deriving DecidableEq, Repr

/-- What the rack controller commands a slot module to do (02 R23, R29). -/
structure Outputs where
  latched : Bool
  setpoint : Nat
  indicator : Indicator
  deriving DecidableEq, Repr

/-- What a slot record keeps of its last reading (02 R24, R28): the temperature in tenths of a degree, signed, and the current as
the clamped figure. -/
structure LastReading where
  voltage : Nat
  temperature : Int
  current : Nat
  clamped : Bool
  deriving DecidableEq, Repr

/-- The empty set of monitors. -/
def noMonitors : Monitors := ⟨false, false, false, false⟩

/-- One slot record (02 R28). attempting, topoffFresh and sent are implied by R30, R38 and R23 (log 26, 27). -/
structure Slot where
  state : SlotState
  pending : Option Phase
  occupant : Occupant
  previous : Occupant
  attempts : Nat
  attempting : Bool
  charge : Nat
  acc : Nat
  bulkRan : Bool
  timer : Nat
  timerOn : Bool
  topoffFresh : Bool
  granted : Option Nat
  out : Outputs
  sent : Option Outputs
  last : Option LastReading
  forced : Monitors
  cause : Monitors
  window : Option Nat
  deriving DecidableEq, Repr

/-- Latched, no current, dark: the outputs after reset (02 R28) and of an EMPTY slot (02 R29). -/
def darkOutputs : Outputs := ⟨true, 0, .dark⟩

/-- A slot record after any reset (02 R28); the start-up poll carries its outputs (12 R206 step 4). -/
def resetSlot : Slot :=
  { state := .offline, pending := none, occupant := .none, previous := .none, attempts := 0, attempting := false, charge := 0,
    acc := 0, bulkRan := false, timer := 0, timerOn := false, topoffFresh := false, granted := none, out := darkOutputs,
    sent := some darkOutputs, last := none, forced := noMonitors, cause := noMonitors, window := none }

/-- One grant of a rack's budget (03 R49). -/
structure Grant where
  slot : SlotNo
  current : Nat
  deriving DecidableEq, Repr

/-- A rack: its link state (02 R25) and its budget arbiter (03 R49). -/
structure Rack where
  online : Bool
  misses : Nat
  budget : Nat
  grants : List Grant
  waits : List SlotNo
  deriving DecidableEq, Repr

/-- A rack after any reset with the default budget (02 R25, 03 R60). -/
def resetRack : Rack := { online := false, misses := 0, budget := 4000, grants := [], waits := [] }

/-- The default charge settings (02 R47). -/
def defaultCharge : ChargeSettings :=
  { precharge := 50, bulk := 500, topoff := 100, taper := 30, receiverCapacity := 600, micCapacity := 1200,
    lowThreshold := 150, serviceLimit := 800 }

/-- The default issue settings (04 R65). -/
def defaultIssue : IssueSettings := { leaseDuration := 7200, latchWindow := 30, returnGrace := 900, readyThreshold := 8 }

/-! ## Groups and tune orders (05) -/

/-- The group states of 05 R82. -/
inductive GroupState where
  | free | opened | closing
  deriving DecidableEq, Repr

/-- One group record (05 R82). -/
structure Group where
  state : GroupState
  mic : Option UnitNo
  channel : Option ChanNo
  members : Nat
  openedAt : Option Time
  deriving DecidableEq, Repr

/-- The FREE values of 05 R82. -/
def freeGroup : Group := { state := .free, mic := none, channel := none, members := 0, openedAt := none }

/-- A tune order (05 R93). -/
structure Order where
  unit : UnitNo
  air : Nat
  deriving DecidableEq, Repr

/-! ## Channel plan and mix engine (06, 07) -/

/-- The channel states of 06 R101. -/
inductive ChannelState where
  | off | live | hold | emergency
  deriving DecidableEq, Repr

/-- One mix list entry of a channel record (06 R101). -/
structure MixSource where
  source : SourceNo
  gain : Nat
  deriving DecidableEq, Repr

/-- The configured fields of a channel record (06 R101). -/
structure ChannelConfig where
  mode : ChannelMode
  language : Lang
  fixedSource : Nat
  primaryGain : Nat
  mixList : List MixSource
  announceGain : Nat
  duckLevel : Nat
  holdClip : Option Nat
  masterGain : Nat
  floorGain : Nat
  deriving DecidableEq, Repr

/-- The default configured fields of 06 R118. -/
def defaultChannel : ChannelConfig :=
  { mode := .group, language := ⟨0, 0⟩, fixedSource := 0, primaryGain := 16384, mixList := [], announceGain := 16384,
    duckLevel := 8192, holdClip := none, masterGain := 16384, floorGain := 8192 }

/-- One channel record (06 R101). -/
structure Channel where
  config : ChannelConfig
  group : Option GroupNo
  state : ChannelState
  primary : Option SourceNo
  holdPlayer : Option PlayerNo
  deriving DecidableEq, Repr

/-- One presence record (06 R105). -/
structure Presence where
  present : Bool
  absentRun : Nat
  presentRun : Nat
  deriving DecidableEq, Repr

/-- One guide link entry (06 R107). -/
structure Link where
  unit : Option UnitNo
  quality : Nat
  deriving DecidableEq, Repr

/-- What the mix engine holds for a channel (07 R119). -/
structure Mix where
  duck : Nat
  master : Nat
  tally : Nat
  deriving DecidableEq, Repr

/-! ## Clip store (08) -/

/-- The block states of 08 R135. -/
inductive BlockState where
  | erased | written | dirty
  deriving DecidableEq, Repr

/-- The clip states of 08 R139. -/
inductive ClipState where
  | writing | valid | stale
  deriving DecidableEq, Repr

/-- One directory record (08 R139). -/
structure Clip where
  id : Nat
  language : Lang
  cls : ClipClass
  state : ClipState
  blocks : List BlockNo
  total : Nat
  deriving DecidableEq, Repr

/-- The seven store states of 08 R146. -/
inductive StoreState where
  | ready | gathering | erasing | suspending | suspendedAuto | suspendedHeld | programming
  deriving DecidableEq, Repr

/-- The state a suspension leads to (08 R149 to R151). -/
inductive SuspendTarget where
  | auto | held
  deriving DecidableEq, Repr

/-- One member of the erase batch (08 R147). -/
structure BatchEntry where
  block : BlockNo
  keyed : Bool
  deriving DecidableEq, Repr

/-- How far the erase of the batch has got (08 R148). -/
inductive EraseStage where
  | notBegun | marking | erasing
  deriving DecidableEq, Repr

/-- The counts that ERASE_DONE reports, and the lowest block that joined the batch (08 R148, log 18). -/
structure EraseTally where
  lowest : BlockNo
  erased : Nat
  dirty : Nat
  dropped : Nat
  clips : Nat
  deriving DecidableEq, Repr

/-- The request a program operation carries out (08 R136). -/
inductive ProgramJob where
  | begin (clip : Nat) (language : Lang) (cls : ClipClass) (block : BlockNo)
  | append (clip : Nat) (count : Nat) (taken : Option BlockNo)
  | seal (clip : Nat)
  | delete (clip : Nat)
  | record
  deriving DecidableEq, Repr

/-- A program operation in progress: the bytes it intends, by address in the array, its request and the port that waits. -/
structure ProgramOp where
  cells : List (Nat × Byte)
  job : ProgramJob
  port : Option PortId
  deriving DecidableEq, Repr

/-- The four outcomes of a record save (12 R210). -/
inductive SaveOutcome where
  | saved | programFail | eraseFail | dropped
  deriving DecidableEq, Repr

/-- A record save in progress (08 R158, 12 R209): the record's bytes as captured, its site code, and its outcome once known. -/
structure Save where
  image : List Byte
  siteCode : Nat
  outcome : Option SaveOutcome
  deriving DecidableEq, Repr

/-- The store apart from the array, the block table, the directory and the read path (08 R146 to R158). -/
structure Store where
  state : StoreState
  target : SuspendTarget
  returnTo : StoreState
  batch : List BatchEntry
  stage : EraseStage
  inHand : Option BlockNo
  tally : EraseTally
  op : Option ProgramOp
  suspendWaiter : Option PortId
  save : Option Save
  deriving DecidableEq, Repr

/-- No erase counted. -/
def emptyTally : EraseTally := { lowest := 0, erased := 0, dirty := 0, dropped := 0, clips := 0 }

/-- The store when the start-up scan ends (08 R146). -/
def resetStore : Store :=
  { state := .ready, target := .auto, returnTo := .ready, batch := [], stage := .notBegun, inHand := none,
    tally := emptyTally, op := none, suspendWaiter := none, save := none }

/-- The Read Store read at position 6 of the read path (08 R154). -/
structure RawRead where
  block : BlockNo
  offset : Nat
  length : Nat
  port : PortId
  deriving DecidableEq, Repr

/-- The store read path (08 R152): which position is in service, whether the codes it brings are to be discarded (09 R162),
the position served last, and the Read Store read. The players' waiting reads are their own read fields. -/
structure ReadPath where
  inService : Option (Fin 7)
  discard : Bool
  lastServed : Fin 7
  raw : Option RawRead
  deriving DecidableEq, Repr

/-- The read path after any reset (08 R152, R159). -/
def resetPath : ReadPath := { inService := none, discard := false, lastServed := 6, raw := none }

/-! ## Player pool (09) -/

inductive PlayerState where
  | idle | filling | playing
  deriving DecidableEq, Repr

inductive Owner where
  | hold | announce | emergency
  deriving DecidableEq, Repr

/-- The read field of 09 R160. -/
inductive ReadState where
  | idle | waiting | inService
  deriving DecidableEq, Repr

/-- One player record (09 R160). fetchOpen: the fetch state is OPEN. -/
structure Player where
  state : PlayerState
  owner : Option Owner
  clip : Option Nat
  position : Nat
  loops : Nat
  fetch : Nat
  fetchLoops : Nat
  fetchOpen : Bool
  read : ReadState
  channels : List ChanNo
  buffer : List Byte
  underrun : Bool
  deriving DecidableEq, Repr

/-- The IDLE values of 09 R160. -/
def idlePlayer : Player :=
  { state := .idle, owner := none, clip := none, position := 0, loops := 0, fetch := 0, fetchLoops := 0, fetchOpen := true,
    read := .idle, channels := [], buffer := [], underrun := false }

/-! ## Emergency control (10) -/

inductive RaiseCause where
  | input | request
  deriving DecidableEq, Repr

/-- The raising cause and raised time, present while RAISED (10 R174). -/
structure Raised where
  cause : RaiseCause
  time : Time
  deriving DecidableEq, Repr

/-- Emergency control (10 R174). raised is none in CLEAR. languages holds the five entries as loaded; serves p is the language
player p serves (none for player 0). -/
structure Emergency where
  raised : Option Raised
  input : Bool
  languages : Table Lang 5
  defaultClip : Option Nat
  serves : Table (Option Lang) 6
  assigned : Table (Option PlayerNo) 12
  deriving DecidableEq, Repr

/-- Emergency control after any reset, with no list and no clip (10 R174). -/
def resetEmergency : Emergency :=
  { raised := none, input := false, languages := Table.fill ⟨0, 0⟩, defaultClip := none, serves := Table.fill none,
    assigned := Table.fill none }

/-! ## Ports and notices (11) -/

/-- The commands of 11 R193. -/
inductive Command where
  | identify | fetchNotices | readUnit | selectUnits | readGroup | readRack | readChannelPlan | readDirectory
  | issueUnit | openGroup | closeGroup | moveGroup | setUnitMarks
  | reportUnits | reportGuideLinks | fetchTuneOrders | readTuneMap
  | enrolUnit | retireUnit | unenrolUnit | setRackBudget | setChargeSettings | setIssueSettings | forceMonitor | clearSlotFault
  | setChannel | setTime | startAnnouncement | stopPlayer | raiseEmergency | clearEmergency
  | beginClip | appendAudio | sealClip | deleteClip | eraseBlock | suspendStore | resumeStore | readStore | protectGroup
  | unprotectGroup | saveSiteRecord | setPortOptions | resetPart
  deriving DecidableEq, Repr

/-- The status codes of 11 R192. -/
inductive Status where
  | ok | started | range | notFound | conflict | badLength | noReadyUnit | noPlayer | inUse | clipLive | isProtected
  | storeBusy | storeFull | verifyFail | badCheck | unknownCommand | noRights | noFrame | pending | starting
  deriving DecidableEq, Repr

/-- The four conditions a command's rule sets (11 R192). LOST_REQUEST is the port's own. -/
structure Cond where
  v : Bool
  z : Bool
  n : Bool
  c : Bool
  deriving DecidableEq, Repr

/-- No condition set. -/
def noCond : Cond := ⟨false, false, false, false⟩

/-- The 24 notice kinds, in the order of their codes 1..24 (11 R191). -/
inductive NoticeKind where
  | startup | unitArrived | unitReturned | unitTaken | unknownUnit | issueTimeout | leaseOverdue | unitLow | guideLow | guideLost
  | readyLow | groupEmpty | slotFault | channelHold | channelTrimmed | playerDone | playerUnderrun | playerPreempted | eraseDone
  | storeFault | recordSaved | tuneResync | emergencyRaised | emergencyCleared
  deriving DecidableEq, Repr

/-- The subject of a notice (11 R191). -/
inductive Subject where
  | none
  | unit (u : UnitNo)
  | slot (i : SlotIx)
  | channel (c : ChanNo)
  | group (g : GroupNo)
  | player (p : PlayerNo)
  | block (b : BlockNo)
  deriving DecidableEq, Repr

/-- The four detail bytes of a notice record (11 R191). -/
structure Detail where
  b0 : Byte
  b1 : Byte
  b2 : Byte
  b3 : Byte
  deriving DecidableEq, Repr

/-- A notice record (11 R191). -/
structure Notice where
  kind : NoticeKind
  subject : Subject
  detail : Detail
  time : Time
  deriving DecidableEq, Repr

/-- Why a request about groups and microphones is refused (05 R85, R90), or one that needs a block (08 R141). -/
inductive Reason where
  | micKind | micRetired | micAssigned | channelMode | channelBound | groupFree | clipLimit | noBlock
  deriving DecidableEq, Repr

/-- One slot summary of Read Rack (02 R48). -/
structure SlotSummary where
  state : SlotState
  pending : Option Phase
  occupant : Occupant
  charge : Nat
  last : Option LastReading
  granted : Option Nat
  timer : Nat
  timerOn : Bool
  forced : Monitors
  cause : Monitors
  latched : Bool
  deriving DecidableEq, Repr

/-- One channel record as Read Channel Plan returns it (06 R117). -/
structure ChannelReport where
  record : Channel
  air : Nat
  master : Nat
  deriving DecidableEq, Repr

/-- The counts of one class's groups in Read Directory (08 R157). -/
structure BlockCounts where
  erased : Nat
  written : Nat
  dirty : Nat
  free : Nat
  deriving DecidableEq, Repr

/-- The data of a response, as the rule of its command lists it. Its byte layout is Operands.lean's (log 3). -/
inductive Data where
  | none
  /-- IDENTIFY (11 R200) -/
  | identity (straps : Straps) (enabled : Straps) (folding : Nat) (siteCode : Nat) (valid : Bool) (time : Time)
  /-- FETCH_NOTICES (11 R197) -/
  | notices (left : Nat) (overflowed : Bool) (records : List Notice)
  /-- READ_UNIT (01 R5) -/
  | entry (e : UnitEntry) (serviceDue : Bool)
  /-- SELECT_UNITS (01 R17) -/
  | selected (total : Nat) (units : List UnitNo)
  /-- READ_GROUP (05 R99) -/
  | group (g : Group) (air : Option Nat) (overdue releasing : Nat)
  /-- READ_RACK (02 R48) -/
  | rack (online : Bool) (misses budget grantedSum : Nat) (slots : List SlotSummary)
  /-- READ_CHANNEL_PLAN parts 0..2 (06 R117) -/
  | channels (records : List ChannelReport)
  /-- READ_CHANNEL_PLAN part 3 (06 R117) -/
  | plan (presence : List Bool) (links : List Link) (states : List ChannelState) (raised : Bool)
  /-- READ_DIRECTORY without detail (08 R157) -/
  | directory (state : StoreState) (batch : Nat) (inHand : Option BlockNo) (prot : BitVec 16) (key : Bool)
      (emergency standard : BlockCounts) (total : Nat) (records : List Clip)
  /-- READ_DIRECTORY with detail (08 R157) -/
  | clipDetail (c : Clip) (blocks : List BlockState)
  /-- ISSUE_UNIT (04 R71) -/
  | issued (unit : UnitNo) (slot : SlotIx) (channel : ChanNo) (air : Nat) (deadline : Time) (left : Nat)
  /-- the state of the group of a refused ISSUE_UNIT (04 R70) -/
  | groupState (g : GroupState)
  /-- the state of the channel of a refused ISSUE_UNIT (04 R70) -/
  | channelState (c : ChannelState)
  /-- OPEN_GROUP (05 R86) -/
  | opened (group : GroupNo) (channel : ChanNo) (air : Nat) (time : Time)
  /-- a refusal's reason and, where the rule names one, the group (05 R85, R90) -/
  | reason (r : Reason) (group : Option GroupNo)
  /-- a refusal for the channel's mode, with the mode (05 R85) -/
  | modeReason (mode : ChannelMode)
  /-- CLOSE_GROUP (05 R87) -/
  | closed (members moved : Nat) (state : GroupState)
  /-- MOVE_GROUP (05 R91) -/
  | moved (old new : ChanNo) (air joined replaced dropped : Nat)
  /-- SET_UNIT_MARKS (01 R10) -/
  | marks (old new : Byte)
  /-- REPORT_UNITS (01 R16) -/
  | reported (applied unheard skipped : Nat)
  /-- REPORT_GUIDE_LINKS (06 R109) -/
  | linked (applied strangers lost : Nat)
  /-- the position of the record or list entry at fault, counted from 0 (06 R103, R108, 09 R167, log 16) -/
  | position (i : Nat)
  /-- FETCH_TUNE_ORDERS (05 R96) -/
  | orders (left : Nat) (resync : Bool) (orders : List Order)
  /-- READ_TUNE_MAP (05 R97) -/
  | tuneMap (total : Nat) (entries : List Order)
  /-- the unit number of a refused ENROL_UNIT (01 R6) -/
  | unitNumber (u : UnitNo)
  /-- ENROL_UNIT (01 R6) -/
  | enrolled (location : Location) (slot : Option SlotIx)
  /-- SET_RACK_BUDGET (03 R56) -/
  | budget (applied revoked grantedSum remaining waiting : Nat)
  /-- SET_CHANNEL (06 R104) -/
  | channelSet (state : ChannelState) (primary : Option SourceNo)
  /-- the bound group of a refused SET_CHANNEL (06 R103) -/
  | boundGroup (g : GroupNo)
  /-- SET_TIME (04 R68) -/
  | times (before after : Time)
  /-- START_ANNOUNCEMENT (09 R168): lost is the hold clip and the channels that lost it -/
  | announced (player : PlayerNo) (total audible : Nat) (lost : Option (Nat × List ChanNo))
  /-- the clip state of a refused START_ANNOUNCEMENT or BEGIN_CLIP (09 R167, 08 R142), none when it is not held -/
  | clipState (s : Option ClipState)
  /-- the owner of each player (09 R167) -/
  | owners (o : List (Option Owner))
  /-- STOP_PLAYER (09 R169) -/
  | stopped (state : PlayerState) (owner : Option Owner) (clip : Option Nat) (position loops : Nat) (underrun : Bool)
      (channels : List ChanNo)
  /-- RAISE_EMERGENCY (10 R175) -/
  | raised (state : Bool) (cause : Option RaiseCause) (time : Option Time) (input : Bool) (clip players channels : Nat)
  /-- the cause and input level of a refused CLEAR_EMERGENCY (10 R181) -/
  | stillActive (cause : RaiseCause) (input : Bool)
  /-- CLEAR_EMERGENCY (10 R181) -/
  | cleared (live hold off : Nat) (seconds : BitVec 32)
  /-- BEGIN_CLIP (08 R142) -/
  | taken (block : BlockNo)
  /-- APPEND_AUDIO (08 R143) -/
  | appended (total : Nat) (block : BlockNo) (free : Nat)
  /-- SEAL_CLIP (08 R144) -/
  | sealed (blocks total : Nat)
  /-- the lowest player of a refused DELETE_CLIP (08 R145) -/
  | playedBy (p : PlayerNo)
  /-- the clip of a refused ERASE_BLOCK (08 R147) -/
  | clipId (id : Nat)
  /-- ERASE_BLOCK (08 R147): the number of blocks in the batch -/
  | batch (count : Nat)
  /-- SUSPEND_STORE (08 R149) -/
  | suspended (state : StoreState) (block : Option BlockNo)
  /-- RESUME_STORE (08 R150) -/
  | storeState (state : StoreState)
  /-- READ_STORE (08 R154) -/
  | bytes (bs : List Byte)
  /-- PROTECT_GROUP and UNPROTECT_GROUP (08 R155) -/
  | protection (map : BitVec 16)
  /-- SAVE_SITE_RECORD (12 R209): the site code the record will hold -/
  | saving (siteCode : Nat)
  /-- SET_PORT_OPTIONS (11 R199) -/
  | options (mask : BitVec 24) (attention invert : Bool)
  deriving DecidableEq, Repr

/-- A response as built: status, conditions, tag and data (11 R191). -/
structure Response where
  status : Status
  cond : Cond
  tag : Byte
  data : Data
  deriving DecidableEq, Repr

/-- The request in hand at a port in EXECUTING (11 R186 to R189): taken says its owner has it and has not answered yet; marker
is the progress marker of the next pending frame. -/
structure Job where
  tag : Byte
  command : Command
  params : List Byte
  marker : Bool
  taken : Bool
  deriving DecidableEq, Repr

/-- The port states of 11 R185, each with what it holds. -/
inductive PortState where
  | starting
  | idle
  | executing (job : Job)
  | ready (response : Response)
  deriving DecidableEq, Repr

/-- One port with its notice queue and options (11 R185, R188, R195 to R199). sent: the bytes of the last read transfer. -/
structure Port where
  enabled : Bool
  state : PortState
  lost : Bool
  mask : BitVec 24
  attention : Bool
  invert : Bool
  queue : List Notice
  overflowed : Bool
  sent : List Byte
  deriving DecidableEq, Repr

/-- An enabled port after any reset with every kind subscribed (11 R185, R195 to R199). -/
def resetPort : Port :=
  { enabled := true, state := .starting, lost := false, mask := 0xFFFFFF#24, attention := true, invert := false, queue := [],
    overflowed := false, sent := [] }

/-! ## The machine -/

/-- Held in reset, in start-up, or running (12 R206 to R208). -/
inductive RunPhase where
  | held | startUp | running
  deriving DecidableEq, Repr

/-- The three kinds of reset (00_scope 4.8). -/
inductive ResetKind where
  | powerOn | resetLine | resetPart
  deriving DecidableEq, Repr

/-- Start-up's own progress (12 R206 step 4): the racks whose start-up poll has been answered or missed, those that answered,
and the identifications that found an unenrolled occupant. -/
structure StartUp where
  polled : Table Bool 4
  answered : Table Bool 4
  strangers : Nat
  deriving DecidableEq, Repr

/-- Start-up at its beginning. -/
def beginStartUp : StartUp := { polled := Table.fill false, answered := Table.fill false, strangers := 0 }

/-- The whole state of the TC-16 and the queue of commands that wait for it. -/
structure State where
  /-- commands waiting, first in first out (the model's own queue) -/
  pending : List Instr
  phase : RunPhase
  resetKind : ResetKind
  straps : Straps
  startUp : StartUp
  /-- the service key input, held or not (08 R155) -/
  key : Bool
  /-- the MODEL's own counter that feeds the free values of Config (log 10) -/
  free : Nat
  siteTime : Time
  /-- the record status is VALID (12 R204) -/
  recordValid : Bool
  siteCode : Nat
  fleet : Table UnitEntry 256
  slots : Table Slot 64
  racks : Table Rack 4
  ready : List UnitNo
  armed : Bool
  charge : ChargeSettings
  issue : IssueSettings
  groups : Table Group 12
  tune : List Order
  resync : Bool
  channels : Table Channel 12
  presence : Table Presence 16
  links : Table Link 8
  mix : Table Mix 12
  window : Nat
  /-- samples computed at the last frame, for the next frame's output slots (07 R120) -/
  outNext : Table Int 12
  /-- samples being sent in this frame's output slots (07 R120) -/
  outNow : Table Int 12
  /-- the flash array (08 R135): cells that do not read 0xFF, by address, rising -/
  mem : List Host.Cell
  blocks : Table BlockState 256
  directory : List Clip
  store : Store
  prot : BitVec 16
  path : ReadPath
  players : Table Player 6
  emergency : Emergency
  desk : Port
  transmitter : Port
  operations : Port
  deriving DecidableEq, Repr

/-- The faults. The manual gives the TC-16 no condition in which it stops: what goes wrong is answered with a status, reported
with a notice or held as a state, and the part goes on (log 28). The inductive is closed and has no constructor, so no meaning
can answer with a fault. Safe. -/
inductive Fault where
  deriving DecidableEq, Repr

/-- Every reason a command could be refused by the model. -/
inductive Refusal where
  /-- The command has no meaning in the model yet; raised by an arm of exec alone. Safe. -/
  | notModelled (mnemonic : String)
  deriving DecidableEq, Repr

/-- The part after a power-on reset with all three straps on and an erased store, start-up begun: every field at the value its
chapter gives after any reset, the configuration at its defaults because an erased block 0 is invalid (12 R204, R205). The
straps and the erased array are choices of the model (log 7, 8). -/
def State.reset : State :=
  { pending := [], phase := .startUp, resetKind := .powerOn, straps := ⟨true, true, true⟩, startUp := beginStartUp, key := false,
    free := 0, siteTime := 0, recordValid := false, siteCode := 1, fleet := Table.fill vacantEntry, slots := Table.fill resetSlot,
    racks := Table.fill resetRack, ready := [], armed := true, charge := defaultCharge, issue := defaultIssue,
    groups := Table.fill freeGroup, tune := [], resync := false,
    channels := Table.fill { config := defaultChannel, group := none, state := .off, primary := none, holdPlayer := none },
    presence := Table.fill ⟨false, 0, 0⟩, links := Table.fill ⟨none, 0⟩, mix := Table.fill ⟨32768, 16384, 0⟩, window := 0,
    outNext := Table.fill 0, outNow := Table.fill 0, mem := [], blocks := Table.fill .erased, directory := [],
    store := resetStore, prot := 3, path := resetPath, players := Table.fill idlePlayer, emergency := resetEmergency,
    desk := resetPort, transmitter := resetPort, operations := resetPort }

end Sys2Proof.Machine
end

