-- ==== Sys2Proof/Machine/Flags.lean ====
section
/-! DEFINITION. Codes, condition bits and checks: the status codes and the condition byte (11 R192), the notice and command codes
(11 R191, R193), and the CRCs (08 R137, 11 R190, 12 R204). -/

namespace Sys2Proof.Machine

/-- The status byte of 11 R192. -/
def statusCode : Status → Byte
  | .ok => 0x00 | .started => 0x01
  | .range => 0x20 | .notFound => 0x21 | .conflict => 0x22 | .badLength => 0x23
  | .noReadyUnit => 0x30 | .noPlayer => 0x32 | .inUse => 0x33
  | .clipLive => 0x40 | .isProtected => 0x41 | .storeBusy => 0x42 | .storeFull => 0x43 | .verifyFail => 0x44
  | .badCheck => 0x10 | .unknownCommand => 0x11 | .noRights => 0x12
  | .noFrame => 0xE0 | .pending => 0xE1 | .starting => 0xE2

/-- One bit of a byte, at place k. -/
def bitAt (k : Nat) (b : Bool) : Byte :=
  if b then BitVec.ofNat 8 (2 ^ k) else 0

/-- The condition byte of 11 R192: V bit 0, Z bit 1, N bit 2, C bit 3, LOST_REQUEST bit 7; bits 4..6 read 0. -/
def condByte (c : Cond) (lost : Bool) : Byte :=
  bitAt 0 c.v ||| bitAt 1 c.z ||| bitAt 2 c.n ||| bitAt 3 c.c ||| bitAt 7 lost

/-- The code of a notice kind: 1..24 in the order of the kind table (11 R191). -/
def noticeCode : NoticeKind → Nat
  | .startup => 1 | .unitArrived => 2 | .unitReturned => 3 | .unitTaken => 4 | .unknownUnit => 5 | .issueTimeout => 6
  | .leaseOverdue => 7 | .unitLow => 8 | .guideLow => 9 | .guideLost => 10 | .readyLow => 11 | .groupEmpty => 12
  | .slotFault => 13 | .channelHold => 14 | .channelTrimmed => 15 | .playerDone => 16 | .playerUnderrun => 17
  | .playerPreempted => 18 | .eraseDone => 19 | .storeFault => 20 | .recordSaved => 21 | .tuneResync => 22
  | .emergencyRaised => 23 | .emergencyCleared => 24

/-- The command codes of 11 R193. -/
def commandCode : Command → Byte
  | .identify => 0x01 | .fetchNotices => 0x02 | .readUnit => 0x03 | .selectUnits => 0x04 | .readGroup => 0x05
  | .readRack => 0x06 | .readChannelPlan => 0x07 | .readDirectory => 0x08
  | .issueUnit => 0x10 | .openGroup => 0x11 | .closeGroup => 0x12 | .moveGroup => 0x13 | .setUnitMarks => 0x14
  | .reportUnits => 0x20 | .reportGuideLinks => 0x21 | .fetchTuneOrders => 0x22 | .readTuneMap => 0x23
  | .enrolUnit => 0x30 | .retireUnit => 0x31 | .unenrolUnit => 0x32 | .setRackBudget => 0x33 | .setChargeSettings => 0x34
  | .setIssueSettings => 0x35 | .forceMonitor => 0x36 | .clearSlotFault => 0x37 | .setChannel => 0x38 | .setTime => 0x39
  | .startAnnouncement => 0x40 | .stopPlayer => 0x41 | .raiseEmergency => 0x42 | .clearEmergency => 0x43
  | .beginClip => 0x50 | .appendAudio => 0x51 | .sealClip => 0x52 | .deleteClip => 0x53 | .eraseBlock => 0x54
  | .suspendStore => 0x55 | .resumeStore => 0x56 | .readStore => 0x57 | .protectGroup => 0x58 | .unprotectGroup => 0x59
  | .saveSiteRecord => 0x5A | .setPortOptions => 0x60 | .resetPart => 0x61

/-- Every command of 11 R193. -/
def allCommands : List Command :=
  [.identify, .fetchNotices, .readUnit, .selectUnits, .readGroup, .readRack, .readChannelPlan, .readDirectory,
   .issueUnit, .openGroup, .closeGroup, .moveGroup, .setUnitMarks,
   .reportUnits, .reportGuideLinks, .fetchTuneOrders, .readTuneMap,
   .enrolUnit, .retireUnit, .unenrolUnit, .setRackBudget, .setChargeSettings, .setIssueSettings, .forceMonitor, .clearSlotFault,
   .setChannel, .setTime, .startAnnouncement, .stopPlayer, .raiseEmergency, .clearEmergency,
   .beginClip, .appendAudio, .sealClip, .deleteClip, .eraseBlock, .suspendStore, .resumeStore, .readStore, .protectGroup,
   .unprotectGroup, .saveSiteRecord, .setPortOptions, .resetPart]

/-- The command a code names, none for a code outside the list of 11 R193. -/
def commandOf (code : Byte) : Option Command :=
  allCommands.find? fun c => commandCode c == code

/-- One bit of the CRC-8 register: polynomial x^8 + x^2 + x + 1 (11 R190). -/
def crc8Bit (r : Byte) : Byte :=
  if r.msb then (r <<< 1) ^^^ 0x07 else r <<< 1

/-- One byte into the CRC-8 register, most significant bit first (11 R190). -/
def crc8Byte (r b : Byte) : Byte :=
  crc8Bit (crc8Bit (crc8Bit (crc8Bit (crc8Bit (crc8Bit (crc8Bit (crc8Bit (r ^^^ b))))))))

/-- The CRC-8 of frames and of the seal check: initial value 0, not inverted (11 R190, 08 R137). -/
def crc8 (bs : List Byte) : Byte :=
  bs.foldl crc8Byte 0

/-- One bit of the CRC-16 register: polynomial 0x1021 (08 R137, 12 R204). -/
def crc16Bit (r : Half) : Half :=
  if r.msb then (r <<< 1) ^^^ 0x1021 else r <<< 1

/-- One byte into the CRC-16 register, most significant bit first. -/
def crc16Byte (r : Half) (b : Byte) : Half :=
  let x := r ^^^ (b.zeroExtend 16 <<< 8)
  crc16Bit (crc16Bit (crc16Bit (crc16Bit (crc16Bit (crc16Bit (crc16Bit (crc16Bit x)))))))

/-- The CRC-16 of block headers and of the site record: initial value 0xFFFF, without final inversion (08 R137, 12 R204). -/
def crc16 (bs : List Byte) : Half :=
  bs.foldl crc16Byte 0xFFFF

end Sys2Proof.Machine
end

