-- ==== Sys2Proof/Machine/Ops.lean ====
section
/-! DEFINITION. The operations every block uses: reaching one record of a table, the flash array's bytes, queuing a notice
(11 R195, R196), and taking and answering a request at its port (11 R187). The TC-16 has no exception entry: what another
machine would raise is here a response status, a notice or a slot state. -/

namespace Sys2Proof.Machine

/-! ## One record of a table -/

/-- Slot k of rack r as rack * 16 + slot (11 R191). -/
def slotIx (r : RackNo) (k : SlotNo) : SlotIx :=
  ⟨r.val * 16 + k.val, by omega⟩

/-- The rack of a slot. -/
def rackOf (i : SlotIx) : RackNo :=
  ⟨i.val / 16, by omega⟩

/-- The slot's place within its rack. -/
def placeOf (i : SlotIx) : SlotNo :=
  ⟨i.val % 16, by omega⟩

def State.unit (s : State) (u : UnitNo) : UnitEntry := s.fleet.get u
def State.slot (s : State) (i : SlotIx) : Slot := s.slots.get i
def State.rack (s : State) (r : RackNo) : Rack := s.racks.get r
def State.group (s : State) (g : GroupNo) : Group := s.groups.get g
def State.channel (s : State) (c : ChanNo) : Channel := s.channels.get c
def State.player (s : State) (p : PlayerNo) : Player := s.players.get p

def State.updUnit (s : State) (u : UnitNo) (f : UnitEntry → UnitEntry) : State := { s with fleet := s.fleet.upd u f }
def State.updSlot (s : State) (i : SlotIx) (f : Slot → Slot) : State := { s with slots := s.slots.upd i f }
def State.updRack (s : State) (r : RackNo) (f : Rack → Rack) : State := { s with racks := s.racks.upd r f }
def State.updGroup (s : State) (g : GroupNo) (f : Group → Group) : State := { s with groups := s.groups.upd g f }
def State.updChannel (s : State) (c : ChanNo) (f : Channel → Channel) : State := { s with channels := s.channels.upd c f }
def State.updMix (s : State) (c : ChanNo) (f : Mix → Mix) : State := { s with mix := s.mix.upd c f }
def State.updPlayer (s : State) (p : PlayerNo) (f : Player → Player) : State := { s with players := s.players.upd p f }
def State.updStore (s : State) (f : Store → Store) : State := { s with store := f s.store }
def State.updPath (s : State) (f : ReadPath → ReadPath) : State := { s with path := f s.path }

/-- The port of a number. -/
def State.port (s : State) : PortId → Port
  | .desk => s.desk
  | .transmitter => s.transmitter
  | .operations => s.operations

/-- The state with f applied to one port. -/
def State.updPort (s : State) (p : PortId) (f : Port → Port) : State :=
  match p with
  | .desk => { s with desk := f s.desk }
  | .transmitter => { s with transmitter := f s.transmitter }
  | .operations => { s with operations := f s.operations }

/-- The state with f applied to every port. -/
def State.eachPort (s : State) (f : Port → Port) : State :=
  { s with desk := f s.desk, transmitter := f s.transmitter, operations := f s.operations }

/-- A group's number in the manual, 0 for none (05 R82). -/
def groupNumber : Option GroupNo → Nat
  | none => 0
  | some g => g.val + 1

/-- The group record a request's number names, none for 0 and above 12 (05 R82). -/
def groupOf (n : Nat) : Option GroupNo :=
  if h : 1 ≤ n ∧ n ≤ 12 then some ⟨n - 1, by omega⟩ else none

/-- The number as an index below n, none when it is out of range. -/
def inRange (n k : Nat) : Option (Fin n) :=
  if h : k < n then some ⟨k, h⟩ else none

/-- Every index below n, ascending. -/
def every (n : Nat) : List (Fin n) := List.finRange n

/-- x added to a list kept in ascending order, once. -/
def insertNo {n : Nat} (x : Fin n) : List (Fin n) → List (Fin n)
  | [] => [x]
  | y :: ys => if x.val < y.val then x :: y :: ys else if x = y then y :: ys else y :: insertNo x ys

/-! ## The flash array (08 R135, R136) -/

/-- Bytes in a block (08 R135). -/
def blockBytes : Nat := 131072

/-- The address of a byte of a block in the array. -/
def addressOf (b : BlockNo) (offset : Nat) : Nat :=
  b.val * blockBytes + offset

/-- What a byte of the array reads: an unlisted byte is erased, 0xFF (log 8). -/
def byteAt : List Host.Cell → Nat → Byte
  | [], _ => 0xFF
  | c :: rest, a => if c.1 = a then c.2 else byteAt rest a

/-- The array with one byte given a value, in canonical form: a byte at 0xFF is not listed. -/
def putByte : List Host.Cell → Nat → Byte → List Host.Cell
  | [], a, v => if v = 0xFF then [] else [(a, v)]
  | c :: rest, a, v =>
    if c.1 < a then c :: putByte rest a v
    else if c.1 = a then (if v = 0xFF then rest else (a, v) :: rest)
    else if v = 0xFF then c :: rest else (a, v) :: c :: rest

/-- The canonical form of the array: addresses strictly rising, no listed byte at 0xFF. -/
def Memory.wf : List Host.Cell → Bool
  | [] => true
  | c :: rest => (c.2 != 0xFF) && rest.all (fun d => decide (c.1 < d.1)) && Memory.wf rest

/-- n bytes from an address. -/
def bytesFrom (m : List Host.Cell) (a : Nat) : Nat → List Byte
  | 0 => []
  | n + 1 => byteAt m a :: bytesFrom m (a + 1) n

/-- Programming one byte: old content AND new value (08 R136). -/
def programByte (m : List Host.Cell) (a : Nat) (v : Byte) : List Host.Cell :=
  putByte m a (byteAt m a &&& v)

/-- Programming a list of bytes (08 R136). -/
def programCells (m : List Host.Cell) (cells : List (Nat × Byte)) : List Host.Cell :=
  cells.foldl (fun m c => programByte m c.1 c.2) m

/-- The bytes of an operation that came out otherwise than R136 gives them: the array's own failure, named by the event that ends
the operation (log 9). old is the array before the operation: a failing byte has lost some of its 1-bits and gained none. A byte the
operation does not program is left alone. -/
def failBytes (old m : List Host.Cell) (cells faults : List (Nat × Byte)) : List Host.Cell :=
  faults.foldl (fun m f => if cells.any (fun c => c.1 == f.1) then putByte m f.1 (byteAt old f.1 &&& f.2) else m) m

/-- The read-back of 08 R136: every byte programmed reads as intended. -/
def verified (m : List Host.Cell) (cells : List (Nat × Byte)) : Bool :=
  cells.all fun c => byteAt m c.1 == c.2

/-- A program operation cut short: of each byte, the bits that Config.unprogrammed says were not reached keep their old value
(log 10). -/
def programPartly (k : Nat) (m : List Host.Cell) (cells : List (Nat × Byte)) : List Host.Cell :=
  programCells m (cells.map fun c => (c.1, c.2 ||| Config.unprogrammed k c.1))

/-- Whether an address lies in a block. -/
def inBlock (b : BlockNo) (a : Nat) : Bool :=
  a / blockBytes == b.val

/-- A block erased: every byte 0xFF (08 R135). -/
def eraseBytes (m : List Host.Cell) (b : BlockNo) : List Host.Cell :=
  m.filter fun c => !inBlock b c.1

/-- The bytes an erase left otherwise than 0xFF, named by the event that ends it (log 9). -/
def leaveBytes (m : List Host.Cell) (b : BlockNo) (left : List (Nat × Byte)) : List Host.Cell :=
  left.foldl (fun m f => if f.1 < blockBytes then putByte m (addressOf b f.1) f.2 else m) m

/-- A block whose erase was interrupted: a byte reads as before or as 0xFF (08 R154, log 10). The byte at offset 0 keeps the
pending mark, because 08 R159 and 12 R210 find the block spoiled. -/
def erasePartly (k : Nat) (m : List Host.Cell) (b : BlockNo) : List Host.Cell :=
  m.filter fun c => !(inBlock b c.1 && c.1 != addressOf b 0 && Config.erasedSoFar k c.1)

/-- Whether all bytes of a block read 0xFF (08 R138, R148). -/
def blockErased (m : List Host.Cell) (b : BlockNo) : Bool :=
  m.all fun c => !inBlock b c.1 || c.2 == 0xFF

/-! ## Notices (11 R195, R196) -/

/-- The kinds that go to every enabled port whatever its mask holds (11 R195). -/
def bypassesMask : NoticeKind → Bool
  | .startup | .emergencyRaised | .emergencyCleared => true
  | _ => false

/-- A record reaching one port's queue: appended when it is subscribed and fewer than 16 stand there, dropped with OVERFLOWED
set at a full queue (11 R195, R196). The kind of code k is bit k - 1 of the mask (log 54). -/
def takeNotice (n : Notice) (p : Port) : Port :=
  if p.enabled && (bypassesMask n.kind || p.mask.getLsbD (noticeCode n.kind - 1)) then
    if p.queue.length < 16 then { p with queue := p.queue ++ [n] } else { p with overflowed := true }
  else p

/-- Four detail bytes from four numbers, each taken modulo 256. -/
def detail (a b c d : Nat) : Detail :=
  ⟨BitVec.ofNat 8 a, BitVec.ofNat 8 b, BitVec.ofNat 8 c, BitVec.ofNat 8 d⟩

/-- A notice handed to every port's queue, stamped with the site time. While start-up runs none is queued: 12 R206 lets the
STARTUP notice stand for them (log 19). -/
def queueNotice (kind : NoticeKind) (subject : Subject) (d : Detail) (s : State) : State :=
  s.eachPort fun p => if s.phase = .running then takeNotice ⟨kind, subject, d, s.siteTime⟩ p else p

/-- The seconds of a saturating two-byte detail field (11 R191). -/
def saturate16 (n : Nat) : Nat := min n 65535

/-! ## Taking and answering a request (11 R187) -/

/-- What an owner hands back: status, conditions and data. -/
structure Answer where
  status : Status
  cond : Cond
  data : Data
  deriving DecidableEq, Repr

/-- Status OK with data and no condition. -/
def ok (d : Data) : Answer := ⟨.ok, noCond, d⟩

/-- A refusal: it sets no condition (11 R192). -/
def refuse (st : Status) (d : Data := .none) : Answer := ⟨st, noCond, d⟩

/-- The response built at a port that executes a request: its tag is the request's (11 R187, R189). -/
def answerPort (p : PortId) (a : Answer) (s : State) : State :=
  s.updPort p fun q =>
    match q.state with
    | .executing j => { q with state := .ready ⟨a.status, a.cond, j.tag, a.data⟩ }
    | _ => q

/-- The request stays in EXECUTING with its owner (11 R187). -/
def keepWaiting (p : PortId) (s : State) : State :=
  s.updPort p fun q =>
    match q.state with
    | .executing j => { q with state := .executing { j with taken := true } }
    | _ => q

/-- Whether the port holds this command in EXECUTING and no owner has taken it yet. -/
def handedOn (cmd : Command) (p : Port) : Bool :=
  match p.state with
  | .executing j => j.command == cmd && !j.taken
  | _ => false

/-- The parameter lengths a command's form admits, where the manual gives them: none for the eight commands without parameters (05 R96,
08 R149, R150, 10 R175, R181, 11 R197, R200, R201), 0 or 13 for Save Site Record (12 R209). -/
def formLengths : Command → Option (List Nat)
  | .identify | .fetchNotices | .fetchTuneOrders | .raiseEmergency | .clearEmergency | .suspendStore | .resumeStore | .resetPart =>
    some [0]
  | .saveSiteRecord => some [0, 13]
  | _ => none

/-- The parameter bytes of the request in hand at a port. -/
def requestParams (p : Port) : List Byte :=
  match p.state with
  | .executing j => j.params
  | _ => []

/-- The parameters of the request in hand fit its command's form (11 R186): by their length where the manual gives the lengths, and
otherwise as the operand fits says (log 1). -/
def formFits (cmd : Command) (r : Req) (s : State) : Bool :=
  match formLengths cmd with
  | some lengths => lengths.contains (requestParams (s.port r.port)).length
  | none => r.fits

/-- An owner takes the request in hand at a port: parameters that do not fit its form are refused BAD_LENGTH (11 R186); otherwise
the body acts, and an answer of none leaves the port in EXECUTING. A request row whose request is not in hand changes nothing
(log 2). -/
def serve (cmd : Command) (r : Req) (body : State → State × Option Answer) (s : State) : State :=
  if handedOn cmd (s.port r.port) then
    if formFits cmd r s then
      match body s with
      | (t, some a) => answerPort r.port a t
      | (t, none) => keepWaiting r.port t
    else answerPort r.port (refuse .badLength) s
  else s

/-- An owner's answer made at once: the state after and the answer. -/
def done (s : State) (a : Answer) : State × Option Answer := (s, some a)

end Sys2Proof.Machine
end

