-- ==== Sys2Proof/Machine/Operands.lean ====
section
/-! DEFINITION. Operand forms and byte layouts. The manual gives bytes to five formats only (00_scope 3): the request frame, the
response frame, the notice record, the tune order and the block header. The data of the other responses is laid out here by one
convention, a DESIGN CHOICE (log 3): the items in the order their rule lists them, a number in the fewest whole bytes of its
range, least significant byte first (11 R190), an optional item as a presence byte and its value (0 when absent), an item from
a list of names as its place in that list, a list of no fixed length behind a count byte. Log 3 names every item laid out otherwise. -/

namespace Sys2Proof.Machine

/-! ## Operand forms -/

/-- A value taken as the nearer end of its range (02 R47, 04 R65, 12 R205). -/
def clampTo (lo hi n : Nat) : Nat := max lo (min hi n)

/-- The charge settings with every value in its range (02 R47). -/
def clampCharge (c : ChargeSettings) : ChargeSettings :=
  { precharge := clampTo 20 100 c.precharge, bulk := clampTo 100 1000 c.bulk, topoff := clampTo 20 300 c.topoff,
    taper := clampTo 10 100 c.taper, receiverCapacity := clampTo 200 2000 c.receiverCapacity,
    micCapacity := clampTo 200 2000 c.micCapacity, lowThreshold := clampTo 50 500 c.lowThreshold,
    serviceLimit := clampTo 300 5000 c.serviceLimit }

/-- The issue settings with every value in its range (04 R65). -/
def clampIssue (c : IssueSettings) : IssueSettings :=
  { leaseDuration := clampTo 60 43200 c.leaseDuration, latchWindow := clampTo 10 120 c.latchWindow,
    returnGrace := clampTo 0 3600 c.returnGrace, readyThreshold := clampTo 0 64 c.readyThreshold }

/-- A clip identifier as a record or request gives it: 1..96, else none (12 R205, 06 R118). -/
def clipNumber (n : Nat) : Option Nat :=
  if 1 ≤ n ∧ n ≤ 96 then some n else none

/-- The number of an optional clip identifier, 0 for none. -/
def clipOrZero (c : Option Nat) : Nat := c.getD 0

/-! ## Bytes -/

/-- n as k bytes, least significant first (11 R190). -/
def le : Nat → Nat → List Byte
  | 0, _ => []
  | k + 1, n => BitVec.ofNat 8 n :: le k (n / 256)

/-- The number that bytes spell, least significant first (11 R190). -/
def ofLe : List Byte → Nat
  | [] => 0
  | b :: bs => b.toNat + 256 * ofLe bs

def flagByte (b : Bool) : Byte := if b then 1 else 0

/-- An optional number: presence byte and k bytes of value, 0 when absent. -/
def optional (k : Nat) : Option Nat → List Byte
  | none => 0 :: le k 0
  | some n => 1 :: le k n

def kindCode : EntryKind → Nat
  | .vacant => 0 | .receiver => 1 | .guideMic => 2

def locationCode : Location → Nat
  | .inSlot => 0 | .releasing => 1 | .issued => 2 | .loose => 3

/-- The order of 02 R28's state list, EMPTY = 0 (11 R191). -/
def slotStateCode : SlotState → Nat
  | .empty => 0 | .identify => 1 | .precharge => 2 | .waitBudget => 3 | .bulk => 4 | .topoff => 5 | .full => 6 | .ready => 7
  | .releasing => 8 | .fault => 9 | .offline => 10

def phaseCode : Phase → Nat
  | .precharge => 0 | .bulk => 1 | .topoff => 2

/-- The fault cause byte of SLOT_FAULT: VOLT_HIGH 1, VOLT_LOW 2, TEMP_HIGH 4, TEMP_LOW 8, summed (11 R191). -/
def monitorsCode (m : Monitors) : Nat :=
  (if m.voltHigh then 1 else 0) + (if m.voltLow then 2 else 0) + (if m.tempHigh then 4 else 0) + (if m.tempLow then 8 else 0)

def groupStateCode : GroupState → Nat
  | .free => 0 | .opened => 1 | .closing => 2

def channelStateCode : ChannelState → Nat
  | .off => 0 | .live => 1 | .hold => 2 | .emergency => 3

def modeCode : ChannelMode → Nat
  | .disabled => 0 | .group => 1 | .fixed => 2

/-- The mode a byte of a stored channel record names (12 R203). The codes are the model's, the order of 06 R101's list (log 4). -/
def modeOf : Nat → Option ChannelMode
  | 0 => some .disabled | 1 => some .group | 2 => some .fixed | _ => none

def blockStateCode : BlockState → Nat
  | .erased => 0 | .written => 1 | .dirty => 2

def clipStateCode : ClipState → Nat
  | .writing => 0 | .valid => 1 | .stale => 2

/-- The class byte of a block header: 0x3C STANDARD, 0xC3 EMERGENCY (08 R137). -/
def classByte : ClipClass → Byte
  | .standard => 0x3C | .emergency => 0xC3

def storeStateCode : StoreState → Nat
  | .ready => 0 | .gathering => 1 | .erasing => 2 | .suspending => 3 | .suspendedAuto => 4 | .suspendedHeld => 5
  | .programming => 6

def playerStateCode : PlayerState → Nat
  | .idle => 0 | .filling => 1 | .playing => 2

/-- HOLD 0, ANNOUNCE 1, EMERGENCY 2 (11 R191, PLAYER_UNDERRUN). -/
def ownerCode : Owner → Nat
  | .hold => 0 | .announce => 1 | .emergency => 2

/-- INPUT 0, REQUEST 1 (11 R191, EMERGENCY_RAISED). -/
def raiseCode : RaiseCause → Nat
  | .input => 0 | .request => 1

/-- The byte of a refusal's reason. The manual has no list of the reasons and no codes; the model numbers those of 05 R85 in the order of its
checks, then that of 05 R90 and those of 08 R141 (log 3). -/
def reasonCode : Reason → Nat
  | .micKind => 0 | .micRetired => 1 | .micAssigned => 2 | .channelMode => 3 | .channelBound => 4 | .groupFree => 5
  | .clipLimit => 6 | .noBlock => 7

/-- SAVED 0, PROGRAM_FAIL 1, ERASE_FAIL 2, DROPPED 3 (12 R210). -/
def outcomeCode : SaveOutcome → Nat
  | .saved => 0 | .programFail => 1 | .eraseFail => 2 | .dropped => 3

def langBytes (l : Lang) : List Byte := [l.first, l.second]

def entryBytes (e : UnitEntry) (due : Bool) : List Byte :=
  le 1 (kindCode e.kind) ++ le 4 e.serial.toNat ++ le 1 (locationCode e.location)
    ++ optional 1 (e.slot.map (·.val)) ++ optional 1 (e.group.map (·.val + 1)) ++ optional 1 (e.channel.map (·.val))
    ++ optional 4 (e.deadline.map (·.toNat)) ++ le 2 e.charge ++ optional 4 (e.lastHeard.map (·.toNat))
    ++ optional 1 e.signal ++ le 2 e.cycles ++ [e.marks]
    ++ [flagByte e.retired, flagByte e.batteryFault, flagByte e.overdue, flagByte e.lowReported, flagByte due]
    ++ optional 1 (e.assigned.map (·.val + 1))

def occupantBytes : Occupant → List Byte
  | .none => 0 :: le 4 0
  | .enrolled u => 1 :: le 4 u.val
  | .unenrolled s => 2 :: le 4 s.toNat

def lastBytes : Option LastReading → List Byte
  | none => 0 :: le 7 0
  | some l => 1 :: (le 2 l.voltage ++ le 2 (BitVec.ofInt 16 l.temperature).toNat ++ le 2 l.current ++ [flagByte l.clamped])

def summaryBytes (s : SlotSummary) : List Byte :=
  le 1 (slotStateCode s.state) ++ optional 1 (s.pending.map phaseCode) ++ occupantBytes s.occupant ++ le 2 s.charge
    ++ lastBytes s.last ++ optional 2 s.granted ++ le 2 s.timer ++ [flagByte s.timerOn]
    ++ le 1 (monitorsCode s.forced) ++ le 1 (monitorsCode s.cause) ++ [flagByte s.latched]

def mixListBytes (l : List MixSource) : List Byte :=
  le 1 l.length ++ l.flatMap (fun e => le 1 e.source.val ++ le 2 e.gain)

def channelBytes (r : ChannelReport) : List Byte :=
  let f := r.record.config
  le 1 (modeCode f.mode) ++ langBytes f.language ++ le 1 f.fixedSource ++ le 2 f.primaryGain ++ mixListBytes f.mixList
    ++ le 2 f.announceGain ++ le 2 f.duckLevel ++ optional 1 f.holdClip ++ le 2 f.masterGain ++ le 2 f.floorGain
    ++ optional 1 (r.record.group.map (·.val + 1)) ++ le 1 (channelStateCode r.record.state)
    ++ optional 1 (r.record.primary.map (·.val)) ++ optional 1 (r.record.holdPlayer.map (·.val))
    ++ le 2 r.air ++ le 2 r.master

def linkBytes (l : Link) : List Byte :=
  optional 1 (l.unit.map (·.val)) ++ le 1 l.quality

def countsBytes (c : BlockCounts) : List Byte :=
  le 1 c.erased ++ le 1 c.written ++ le 1 c.dirty ++ le 1 c.free

/-- A directory record (08 R157), its class the byte of a block header and not a place in a list (log 3). -/
def clipBytes (c : Clip) : List Byte :=
  le 1 c.id ++ langBytes c.language ++ [classByte c.cls] ++ le 1 (clipStateCode c.state) ++ le 1 c.blocks.length ++ le 3 c.total

/-- The tune order's three bytes: unit, then air code (11 R191). -/
def orderBytes (o : Order) : List Byte := le 1 o.unit.val ++ le 2 o.air

/-- The subject type of a notice record (11 R191). -/
def subjectType : Subject → Nat
  | .none => 0 | .unit _ => 1 | .slot _ => 2 | .channel _ => 3 | .group _ => 4 | .player _ => 5 | .block _ => 6

/-- The subject number of a notice record, 0 for none (11 R191). -/
def subjectNumber : Subject → Nat
  | .none => 0 | .unit u => u.val | .slot i => i.val | .channel c => c.val | .group g => g.val + 1 | .player p => p.val
  | .block b => b.val

/-- The notice record's eleven bytes (11 R191). -/
def noticeBytes (n : Notice) : List Byte :=
  le 1 (noticeCode n.kind) ++ le 1 (subjectType n.subject) ++ le 1 (subjectNumber n.subject)
    ++ [n.detail.b0, n.detail.b1, n.detail.b2, n.detail.b3] ++ le 4 n.time.toNat

def strapBytes (s : Straps) : List Byte := [flagByte s.desk, flagByte s.transmitter, flagByte s.operations]

/-- The data bytes of a response. Tune orders and notices stand as 11 R191 lays them out; the rest is the model's layout (log 3): the count
bytes of Select Units, Read Directory, Start Announcement, Stop Player and a mix list, whose rules name none, the presence byte of the
clip's state in the CONFLICT of Begin Clip and the lost hold clip of Start Announcement included, and a rack and slot in one byte, rack x 16
+ slot, as 11 R191 packs them in notices. -/
def dataBytes : Data → List Byte
  | .none => []
  | .identity straps enabled folding site valid time =>
    le 2 0xA016 ++ le 1 1 ++ strapBytes straps ++ strapBytes enabled ++ le 1 folding ++ le 2 site ++ [flagByte (!valid)]
      ++ le 4 time.toNat
  | .notices left overflowed records =>
    le 1 records.length ++ le 1 left ++ [flagByte overflowed] ++ records.flatMap noticeBytes
  | .entry e due => entryBytes e due
  | .selected total units => le 2 total ++ le 1 units.length ++ units.flatMap (fun u => le 1 u.val)
  | .group g air overdue releasing =>
    le 1 (groupStateCode g.state) ++ optional 1 (g.mic.map (·.val)) ++ optional 1 (g.channel.map (·.val)) ++ le 1 g.members
      ++ optional 4 (g.openedAt.map (·.toNat)) ++ optional 2 air ++ le 1 overdue ++ le 1 releasing
  | .rack online misses budget sum slots =>
    [flagByte online] ++ le 1 misses ++ le 2 budget ++ le 2 sum ++ slots.flatMap summaryBytes
  | .channels records => records.flatMap channelBytes
  | .plan presence links states raised =>
    presence.map flagByte ++ links.flatMap linkBytes ++ states.flatMap (fun c => le 1 (channelStateCode c)) ++ [flagByte raised]
  | .directory state batch inHand prot key emergency standard total records =>
    le 1 (storeStateCode state) ++ le 1 batch ++ optional 1 (inHand.map (·.val)) ++ le 2 prot.toNat ++ [flagByte key]
      ++ countsBytes emergency ++ countsBytes standard ++ le 1 total ++ le 1 records.length ++ records.flatMap clipBytes
  | .clipDetail c blocks =>
    clipBytes c ++ c.blocks.flatMap (fun b => le 1 b.val) ++ blocks.flatMap (fun b => le 1 (blockStateCode b))
  | .issued u i c air deadline left =>
    le 1 u.val ++ le 1 i.val ++ le 1 c.val ++ le 2 air ++ le 4 deadline.toNat ++ le 1 left
  | .groupState g => le 1 (groupStateCode g)
  | .channelState c => le 1 (channelStateCode c)
  | .opened g c air time => le 1 (g.val + 1) ++ le 1 c.val ++ le 2 air ++ le 4 time.toNat
  | .reason r g => le 1 (reasonCode r) ++ (match g with | some g => le 1 (g.val + 1) | none => [])
  | .modeReason m => le 1 (reasonCode .channelMode) ++ le 1 (modeCode m)
  | .closed members moved state => le 1 members ++ le 1 moved ++ le 1 (groupStateCode state)
  | .moved old new air joined replaced dropped =>
    le 1 old.val ++ le 1 new.val ++ le 2 air ++ le 2 joined ++ le 2 replaced ++ le 2 dropped
  | .marks old new => [old, new]
  | .reported applied unheard skipped => le 1 applied ++ le 1 unheard ++ le 1 skipped
  | .linked applied strangers lost => le 1 applied ++ le 1 strangers ++ le 1 lost
  | .position i => le 1 i
  | .orders left resync orders => le 1 orders.length ++ le 1 left ++ [flagByte resync] ++ orders.flatMap orderBytes
  | .tuneMap total entries => le 2 total ++ le 1 entries.length ++ entries.flatMap orderBytes
  | .unitNumber u => le 1 u.val
  | .enrolled l slot => le 1 (locationCode l) ++ optional 1 (slot.map (·.val))
  | .budget applied revoked sum remaining waiting =>
    le 2 applied ++ le 1 revoked ++ le 2 sum ++ le 2 remaining ++ le 1 waiting
  | .channelSet state primary => le 1 (channelStateCode state) ++ optional 1 (primary.map (·.val))
  | .boundGroup g => le 1 (g.val + 1)
  | .times before after => le 4 before.toNat ++ le 4 after.toNat
  | .announced p total audible lost =>
    le 1 p.val ++ le 3 total ++ le 1 audible
      ++ (match lost with
          | none => le 1 0
          | some (clip, chans) => le 1 clip ++ le 1 chans.length ++ chans.flatMap (fun c => le 1 c.val))
  | .clipState st => optional 1 (st.map clipStateCode)
  | .owners os => os.flatMap (fun o => optional 1 (o.map ownerCode))
  | .stopped state owner clip position loops underrun chans =>
    le 1 (playerStateCode state) ++ optional 1 (owner.map ownerCode) ++ optional 1 clip ++ le 3 position ++ le 1 loops
      ++ [flagByte underrun] ++ le 1 chans.length ++ chans.flatMap (fun c => le 1 c.val)
  | .raised state cause time input clip players chans =>
    [flagByte state] ++ optional 1 (cause.map raiseCode) ++ optional 4 (time.map (·.toNat)) ++ [flagByte input] ++ le 1 clip
      ++ le 1 players ++ le 1 chans
  | .stillActive cause input => le 1 (raiseCode cause) ++ [flagByte input]
  | .cleared live hold off seconds => le 1 live ++ le 1 hold ++ le 1 off ++ le 4 seconds.toNat
  | .taken b => le 1 b.val
  | .appended total b free => le 3 total ++ le 1 b.val ++ le 3 free
  | .sealed blocks total => le 1 blocks ++ le 3 total
  | .playedBy p => le 1 p.val
  | .clipId id => le 1 id
  | .batch count => le 1 count
  | .suspended state b => le 1 (storeStateCode state) ++ optional 1 (b.map (·.val))
  | .storeState state => le 1 (storeStateCode state)
  | .bytes bs => bs
  | .protection map => le 2 map.toNat
  | .saving site => le 2 site
  | .options mask attention invert => le 3 mask.toNat ++ [flagByte attention, flagByte invert]

/-- The two-byte length of a response frame and its bytes before the check (11 R191). -/
def frameBody (st : Status) (cond tag : Byte) (data : List Byte) : List Byte :=
  statusCode st :: cond :: tag :: (le 2 data.length ++ data)

/-- A frame the port sends: its body and its check, complemented while the check-inversion test flag is set (11 R190, R199). -/
def sentFrame (invert : Bool) (body : List Byte) : List Byte :=
  body ++ [if invert then ~~~ (crc8 body) else crc8 body]

/-- The air code of channel n: (site code * 16 + n) modulo 65536 (05 R92). -/
def airCode (siteCode : Nat) (c : ChanNo) : Nat := (siteCode * 16 + c.val) % 65536

end Sys2Proof.Machine
end

