-- ==== Sys2Proof/Machine/Path.lean ====
section
/-! DEFINITION. The store read path (08 R152): which requesters wait, the automatic suspension a waiting read causes (08 R151),
and the placing of a player's refill (09 R162). -/

namespace Sys2Proof.Machine

/-- A player's position on the read path (08 R152). -/
def pathPosition (p : PlayerNo) : Fin 7 := ⟨p.val, by omega⟩

/-- The player at a position of the read path, none for position 6 (08 R152). -/
def playerAt (q : Fin 7) : Option PlayerNo := inRange 6 q.val

/-- Whether the requester at a position has a read waiting (08 R152). -/
def readWaits (s : State) (q : Fin 7) : Bool :=
  match playerAt q with
  | some p => (s.player p).read == .waiting
  | none => s.path.raw.isSome && s.path.inService != some q

/-- Whether any read waits at the read path. -/
def anyWaits (s : State) : Bool := (every 7).any (readWaits s)

/-- No read is waiting or in service (08 R150, R151). -/
def pathQuiet (s : State) : Bool := !anyWaits s && s.path.inService.isNone

/-- The quiet timer of 08 R151 runs: it does while the store is SUSPENDED_AUTO and no read is waiting or in service. -/
def quietTimerRuns (s : State) : Bool := s.store.state == .suspendedAuto && pathQuiet s

/-- The store is erasing a block, its pending marks made (08 R148). -/
def erasesBlock (s : State) : Bool := s.store.state == .erasing && s.store.stage == .erasing

/-- A read waiting while a block is being erased suspends the erase toward SUSPENDED_AUTO (08 R151, R152). -/
def meetReads (s : State) : State :=
  if erasesBlock s && anyWaits s then
    s.updStore fun t => { t with state := .suspending, target := .auto }
  else s

/-- The three conditions under which a player places a read (09 R162). -/
def refillDue (q : Player) : Bool :=
  q.state != .idle && decide (q.buffer.length ≤ 256) && q.read == .idle && q.fetchOpen

/-- A player's refill is placed when it is due (09 R162), which may suspend an erase (08 R151). -/
def placeRead (p : PlayerNo) (s : State) : State :=
  if refillDue (s.player p) then
    meetReads (s.updPlayer p fun q => { q with read := .waiting })
  else s

end Sys2Proof.Machine
end

