-- ==== Sys2Proof/Machine/Pool.lean ====
section
/-! DEFINITION. The player pool (09): allocation, the ending of a play, hold service and offers. The requests that start and stop
players are in Players.lean. -/

namespace Sys2Proof.Machine

/-- The directory record of an identifier (08 R139). -/
def State.clip (s : State) (id : Nat) : Option Clip :=
  s.directory.find? fun c => c.id == id

/-- The directory holds the clip in state VALID. -/
def clipIsValid (s : State) (id : Nat) : Bool :=
  match s.clip id with
  | some c => c.state == .valid
  | none => false

/-- The total sample count of a clip, 0 when the directory does not hold it (08 R139). -/
def clipTotal (s : State) (id : Nat) : Nat :=
  match s.clip id with
  | some c => c.total
  | none => 0

/-- The player is not IDLE (09 R160). -/
def isBusy (q : Player) : Bool := q.state != .idle

/-- The lowest-numbered IDLE player (09 R166). -/
def lowestIdle (s : State) : Option PlayerNo :=
  (every 6).find? fun p => !isBusy (s.player p)

/-- A player owned by an owner and not IDLE. -/
def ownedBy (o : Owner) (q : Player) : Bool := isBusy q && q.owner == some o

/-- The hold player of each listed channel set (09 R160, R166). -/
def setHoldPlayer (v : Option PlayerNo) (chans : List ChanNo) (s : State) : State :=
  { s with channels := chans.foldl (fun t c => t.upd c fun ch => { ch with holdPlayer := v }) s.channels }

/-- A read in service outlives the play it belonged to (09 R162, log 13). -/
def carriedRead (q : Player) : ReadState := if q.read = .inService then .inService else .idle

/-- The record written at an allocation (09 R166). -/
def allocated (clip : Nat) (owner : Owner) (loops : Nat) (chans : List ChanNo) (q : Player) : Player :=
  { state := .filling, owner := some owner, clip := some clip, position := 0, loops := loops, fetch := 0, fetchLoops := loops,
    fetchOpen := true, read := carriedRead q, channels := chans, buffer := [], underrun := false }

/-- A player allocated to a clip, an owner, a number of loops and a channel list, its first read placed (09 R166). -/
def allocate (p : PlayerNo) (clip : Nat) (owner : Owner) (loops : Nat) (chans : List ChanNo) (s : State) : State :=
  let s1 := s.updPlayer p (allocated clip owner loops chans)
  placeRead p (if owner = .hold then setHoldPlayer (some p) chans s1 else s1)

/-- Steps 1 to 3 of 09 R165: a waiting read withdrawn, a read in service left to complete and its codes discarded, a HOLD
player's channels losing it, the record at its IDLE values. -/
def clearPlayer (p : PlayerNo) (s : State) : State :=
  let q := s.player p
  let s1 := s.updPath fun r => { r with discard := r.discard || q.read == .inService }
  let s2 := if q.owner = some .hold then setHoldPlayer none q.channels s1 else s1
  s2.updPlayer p fun _ => { idlePlayer with read := carriedRead q }

/-- A channel in HOLD with a hold clip and no hold player waits for one (09 9.5). -/
def waitsForPlayer (ch : Channel) : Bool :=
  ch.state == .hold && ch.config.holdClip.isSome && ch.holdPlayer.isNone

/-- The channels waiting for a player with a given hold clip, ascending (09 R172). -/
def waitingFor (s : State) (clip : Nat) : List ChanNo :=
  (every 12).filter fun c => waitsForPlayer (s.channel c) && (s.channel c).config.holdClip == some clip

/-- The hold clip of the lowest-numbered waiting channel whose clip is VALID (09 R172). -/
def offeredClip (s : State) : Option Nat :=
  (every 12).findSome? fun c =>
    if waitsForPlayer (s.channel c) then (s.channel c).config.holdClip.filter (clipIsValid s) else none

/-- An offer (09 R172): while some player is IDLE and some channel waits for a VALID clip, the lowest IDLE player serves every
channel that waits for that clip. Each round takes a player, so six rounds are enough. -/
def offerRounds : Nat → State → State
  | 0, s => s
  | n + 1, s =>
    match lowestIdle s, offeredClip s with
    | some p, some clip => offerRounds n (allocate p clip .hold 0 (waitingFor s clip) s)
    | _, _ => s

def offer (s : State) : State := offerRounds 6 s

/-- Why an announcement ended: COMPLETED 0, STOPPED 1 (11 R191, PLAYER_DONE). -/
inductive PlayEnd where
  | completed | stopped
  deriving DecidableEq, Repr

def playEndCode : PlayEnd → Nat
  | .completed => 0 | .stopped => 1

/-- A player becomes IDLE (09 R165): steps 1 to 3, PLAYER_DONE for an announcement, then an offer. -/
def endPlay (p : PlayerNo) (cause : PlayEnd) (s : State) : State :=
  let q := s.player p
  let s1 := clearPlayer p s
  let s2 :=
    if q.owner = some .announce then
      queueNotice .playerDone (.player p)
        (detail (clipOrZero q.clip) (playEndCode cause) (if q.underrun then 1 else 0) q.channels.length) s1
    else s1
  offer s2

/-- The HOLD player that plays a clip (09 R170 step 1). -/
def holdPlayerOf (s : State) (clip : Nat) : Option PlayerNo :=
  (every 6).find? fun p => ownedBy .hold (s.player p) && (s.player p).clip == some clip

/-- A channel joins a player's channel list. -/
def joinPlayer (p : PlayerNo) (c : ChanNo) (s : State) : State :=
  s.updPlayer p fun q => { q with channels := insertNo c q.channels }

/-- A channel leaves a player's channel list. -/
def leavePlayer (p : PlayerNo) (c : ChanNo) (s : State) : State :=
  s.updPlayer p fun q => { q with channels := q.channels.filter (· != c) }

/-- The pool asked to serve a channel with its hold clip (09 R170): join the player of that clip, or allocate the lowest IDLE
player when the clip is VALID, or leave the channel waiting. -/
def requestHold (c : ChanNo) (clip : Nat) (s : State) : State :=
  match holdPlayerOf s clip with
  | some p => setHoldPlayer (some p) [c] (joinPlayer p c s)
  | none =>
    if clipIsValid s clip then
      match lowestIdle s with
      | some p => allocate p clip .hold 0 [c] s
      | none => s
    else s

/-- A channel leaves hold service (09 R171): it leaves its player's list, and a player left with none becomes IDLE. -/
def leaveHold (c : ChanNo) (s : State) : State :=
  match (s.channel c).holdPlayer with
  | none => s
  | some p =>
    let s1 := setHoldPlayer none [c] (leavePlayer p c s)
    if (s1.player p).channels.isEmpty then endPlay p .stopped s1 else s1

end Sys2Proof.Machine
end

