-- ==== Sys2Proof/Machine/Plan.lean ====
section
/-! DEFINITION. The channel plan's decision (06 R110 to R116) with its effects at its neighbours: hold service (06 R114), the
assignment of emergency players (10 R178) and the mix engine's entry to and exit from EMERGENCY (07 R132). -/

namespace Sys2Proof.Machine

/-- Emergency is raised (10 R174). -/
def isRaised (s : State) : Bool := s.emergency.raised.isSome

/-- A guide input as a source number (00_scope 4.4). -/
def guideSource (k : Fin 8) : SourceNo := ⟨k.val, by omega⟩

/-- A link entry carries a unit when it names it with quality at least 1 (06 R107). -/
def carries (l : Link) (u : UnitNo) : Bool := l.unit == some u && decide (1 ≤ l.quality)

/-- The guide input that carries a unit (06 R107). -/
def carriedOn (s : State) (u : UnitNo) : Option (Fin 8) :=
  (every 8).find? fun k => carries (s.links.get k) u

/-- The resolved source of a channel (06 R111). -/
def resolvedSource (s : State) (c : ChanNo) : Option SourceNo :=
  let ch := s.channel c
  match ch.config.mode with
  | .disabled => none
  | .fixed => inRange 16 ch.config.fixedSource
  | .group =>
    match ch.group with
    | none => none
    | some g =>
      match (s.group g).mic with
      | none => none
      | some u => (carriedOn s u).map guideSource

/-- The primary: the resolved source when it is PRESENT (06 R111). -/
def primarySource (s : State) (c : ChanNo) : Option SourceNo :=
  (resolvedSource s c).filter fun k => (s.presence.get k).present

/-- The channel is OFF whatever else holds: DISABLED, or GROUP and not bound (06 R112). -/
def mustBeOff (ch : Channel) : Bool :=
  ch.config.mode == .disabled || (ch.config.mode == .group && ch.group.isNone)

/-- The state of a channel by the first line of 06 R112's table that applies. -/
def decidedState (s : State) (c : ChanNo) : ChannelState :=
  if mustBeOff (s.channel c) then .off
  else if isRaised s then .emergency
  else if (primarySource s c).isSome then .live
  else .hold

/-- The emergency player an EMERGENCY channel carries (10 R178): the one that serves its language, else player 0 when it is an
emergency player, else none. -/
def emergencyPlayerFor (s : State) (c : ChanNo) : Option PlayerNo :=
  let lang := (s.channel c).config.language
  match (every 6).find? fun p => s.emergency.serves.get p == some lang with
  | some p => some p
  | none => if ownedBy .emergency (s.player 0) then some 0 else none

/-- The channel assignment written (10 R174). -/
def setAssigned (c : ChanNo) (v : Option PlayerNo) (s : State) : State :=
  { s with emergency := { s.emergency with assigned := s.emergency.assigned.set c v } }

/-- A channel is assigned a given emergency player, or none (10 R178). -/
def assignTo (c : ChanNo) (v : Option PlayerNo) (s : State) : State :=
  match v with
  | some p => joinPlayer p c (setAssigned c (some p) s)
  | none => setAssigned c none s

/-- A channel is assigned its emergency player (10 R178). -/
def assignEmergency (c : ChanNo) (s : State) : State := assignTo c (emergencyPlayerFor s c) s

/-- A channel leaves its emergency player's list; its assignment becomes none (10 R178). -/
def unassignEmergency (c : ChanNo) (s : State) : State :=
  match s.emergency.assigned.get c with
  | some p => setAssigned c none (leavePlayer p c s)
  | none => s

/-- The hold entry of 06 R114: CHANNEL_HOLD, then the pool asked for the hold clip when there is one. -/
def enterHold (c : ChanNo) (s : State) : State :=
  let ch := s.channel c
  let cause := if (resolvedSource s c).isSome then 1 else 0
  let s1 := queueNotice .channelHold (.channel c) (detail cause (groupNumber ch.group) (clipOrZero ch.config.holdClip) 0) s
  match ch.config.holdClip with
  | some clip => requestHold c clip s1
  | none => s1

/-- What a channel gives up on leaving a state for another (06 R114, 10 R178, 07 R132). -/
def leaveState (c : ChanNo) (old new : ChannelState) (s : State) : State :=
  if old = .hold ∧ new ≠ .hold then leaveHold c s
  else if old = .emergency ∧ new ≠ .emergency then
    (unassignEmergency c s).updMix c fun m => { m with master := (s.channel c).config.masterGain, tally := 0 }
  else s

/-- What a channel takes up on entering a state from another (06 R114, 10 R178, 07 R132). -/
def enterState (c : ChanNo) (old new : ChannelState) (s : State) : State :=
  if new = .hold ∧ old ≠ .hold then enterHold c s
  else if new = .emergency ∧ old ≠ .emergency then
    (assignEmergency c s).updMix c fun m => { m with master := 16384, tally := 0 }
  else s

/-- A decision (06 R110): the primary resolved, the state given, then the effects of leaving one state and entering another. -/
def decideChannel (c : ChanNo) (s : State) : State :=
  let old := (s.channel c).state
  let new := decidedState s c
  let s1 := s.updChannel c fun ch => { ch with state := decidedState s c, primary := primarySource s c }
  enterState c old new (leaveState c old new s1)

/-- Several channels decided one after another. -/
def decideEach (cs : List ChanNo) (s : State) : State :=
  cs.foldl (fun t c => decideChannel c t) s

/-- Every channel decided, ascending. -/
def decideAll (s : State) : State := decideEach (every 12) s

/-- A channel's bound group written, without a decision. -/
def setBound (c : ChanNo) (g : Option GroupNo) (s : State) : State :=
  s.updChannel c fun ch => { ch with group := g }

/-- A bind handed by the roster (06 R116). -/
def bindChannel (c : ChanNo) (g : GroupNo) (s : State) : State := decideChannel c (setBound c (some g) s)

/-- An unbind handed by the roster (06 R116). -/
def unbindChannel (c : ChanNo) (s : State) : State := decideChannel c (setBound c none s)

end Sys2Proof.Machine
end

