-- ==== Sys2Proof/Machine/Roster.lean ====
section
/-! DEFINITION. The roster's shared operations: a slot's outputs (02 R29), eligibility and the ready queue (01 R4, 04 R61 to R64),
tune orders (05 R92 to R95), the ending of a group (05 R89), the closing of a lease (04 R69), the deadline check (04 R67) and
removals (04 R79, R80). -/

namespace Sys2Proof.Machine

/-! ## Slot outputs (02 R23, R29) -/

/-- The occupant is an enrolled guide mic. -/
def holdsMic (s : State) (o : Occupant) : Bool :=
  match o with
  | .enrolled u => (s.unit u).kind == .guideMic
  | _ => false

/-- The outputs of a slot's state (02 R29); an OFFLINE slot keeps what was last commanded. -/
def outputsFor (s : State) (sl : Slot) : Outputs :=
  match sl.state with
  | .empty => ⟨true, 0, .dark⟩
  | .identify | .waitBudget => ⟨true, 0, .charging⟩
  | .precharge | .bulk | .topoff => ⟨true, sl.granted.getD 0, .charging⟩
  | .full => ⟨!holdsMic s sl.occupant, 0, .charged⟩
  | .ready => ⟨true, 0, .ready⟩
  | .releasing => ⟨false, 0, .take⟩
  | .fault => ⟨false, 0, .fault⟩
  | .offline => sl.out

/-- A slot's outputs brought to its state and, when they change and the rack is ONLINE, sent by command exchange (02 R23, R29). -/
def drive (i : SlotIx) (s : State) : State :=
  s.updSlot i fun sl =>
    let new := outputsFor s sl
    { sl with out := new, sent := if new != sl.out && (s.rack (rackOf i)).online then some new else sl.sent }

/-- A change of a slot's record followed by its outputs. -/
def changeSlot (i : SlotIx) (f : Slot → Slot) (s : State) : State := drive i (s.updSlot i f)

/-! ## Eligibility and the ready queue (01 R4, R11, 04 R61 to R64) -/

/-- SERVICE_DUE: the cycle count is at or above the service limit (01 R11). -/
def serviceDue (s : State) (e : UnitEntry) : Bool := decide (s.charge.serviceLimit ≤ e.cycles)

/-- HOLD_BACK is mark bit 7 (01 R1). -/
def heldBack (marks : Byte) : Bool := marks.getLsbD 7

/-- A unit is eligible for issue (01 R4). -/
def eligible (s : State) (u : UnitNo) : Bool :=
  let e := s.unit u
  e.kind == .receiver && !e.retired && !heldBack e.marks && !serviceDue s e && !e.batteryFault

/-- The occupant is an enrolled unit that is eligible (02 R38, R46). -/
def occupantEligible (s : State) (o : Occupant) : Bool :=
  match o with
  | .enrolled u => eligible s u
  | _ => false

/-- The arming check made at every join (04 R62, R64). -/
def armCheck (s : State) : State :=
  { s with armed := s.armed || decide (s.issue.readyThreshold ≤ s.ready.length) }

/-- A unit joins the ready queue at the tail (04 R62). -/
def readyAppend (u : UnitNo) (s : State) : State := armCheck { s with ready := s.ready ++ [u] }

/-- A unit joins the ready queue at the head (04 R62). -/
def readyPush (u : UnitNo) (s : State) : State := armCheck { s with ready := u :: s.ready }

/-- A unit leaves the ready queue at whatever position it holds (04 R63). -/
def readyRemove (u : UnitNo) (s : State) : State := { s with ready := s.ready.filter (· != u) }

/-- The unit of an occupant leaves the ready queue. -/
def readyRemoveOccupant (o : Occupant) (s : State) : State :=
  match o with
  | .enrolled u => readyRemove u s
  | _ => s

/-- A unit judged again (01 R4): its slot moves between READY and FULL with the ready queue; any other state is left alone. -/
def judgeUnit (u : UnitNo) (s : State) : State :=
  let e := s.unit u
  match e.location, e.slot with
  | .inSlot, some i =>
    if (s.slot i).state = .ready ∧ eligible s u = false then
      changeSlot i (fun sl => { sl with state := .full }) (readyRemove u s)
    else if (s.slot i).state = .full ∧ eligible s u = true then
      readyAppend u (changeSlot i (fun sl => { sl with state := .ready }) s)
    else s
  | _, _ => s

/-! ## Tune orders (05 R92 to R95) -/

/-- What becomes of an order (05 R94). -/
inductive OrderFate where
  | joined | replaced | dropped
  deriving DecidableEq, Repr

/-- The fate of an order for a unit (05 R94). -/
def orderFate (s : State) (u : UnitNo) : OrderFate :=
  if s.tune.any (·.unit == u) then .replaced else if s.tune.length < 64 then .joined else .dropped

/-- An order enqueued (05 R94): it replaces the unit's queued order in place, joins the tail, or is dropped with RESYNC set and,
when RESYNC was clear, TUNE_RESYNC queued (05 R95). -/
def enqueueOrder (u : UnitNo) (air : Nat) (s : State) : State :=
  match orderFate s u with
  | .replaced => { s with tune := s.tune.map fun o => if o.unit == u then { o with air := air } else o }
  | .joined => { s with tune := s.tune ++ [⟨u, air⟩] }
  | .dropped =>
    let s1 := { s with resync := true }
    if s.resync then s1 else queueNotice .tuneResync (.unit u) (detail air (air / 256) s.tune.length 0) s1

/-- A park order: air code 0 (05 R92). -/
def park (u : UnitNo) (s : State) : State := enqueueOrder u 0 s

/-! ## Groups and leases (05 R89, 04 R67, R69) -/

/-- Lease remaining: deadline minus site time modulo 2^32, read in two's complement (04 R67). -/
def leaseRemaining (s : State) (deadline : Time) : Int := (deadline - s.siteTime).toInt

/-- The unit is ISSUED or RELEASING (04 R67, 05 R82). -/
def isOut (e : UnitEntry) : Bool := e.location == .issued || e.location == .releasing

/-- A receiver ISSUED or RELEASING to a group (05 R82, R88). -/
def isMember (g : GroupNo) (e : UnitEntry) : Bool := isOut e && e.group == some g

/-- A GROUP_EMPTY still to be queued: its group and its detail (log 20). -/
abbrev PendingEmpty := Option (GroupNo × Detail)

/-- The GROUP_EMPTY that a closing lease handed back is queued (04 R69). -/
def queueEmpty (n : PendingEmpty) (s : State) : State :=
  match n with
  | some (g, d) => queueNotice .groupEmpty (.group g) d s
  | none => s

/-- The detail of GROUP_EMPTY: channel, guide mic, whole minutes open, saturating at 65535 (05 R89). -/
def emptyDetail (s : State) (gr : Group) : Detail :=
  let minutes := saturate16 ((s.siteTime - gr.openedAt.getD 0).toNat / 60)
  detail ((gr.channel.map (·.val)).getD 0) ((gr.mic.map (·.val)).getD 0) minutes (minutes / 256)

/-- Step 1 of 05 R89: the guide mic loses its assignment and its LOW_REPORTED. -/
def releaseMic (gr : Group) (s : State) : State :=
  match gr.mic with
  | some u => s.updUnit u fun e => { e with assigned := none, lowReported := false }
  | none => s

/-- Step 2 of 05 R89: the channel is unbound. -/
def releaseChannel (gr : Group) (s : State) : State :=
  match gr.channel with
  | some c => unbindChannel c s
  | none => s

/-- Step 3 of 05 R89: the guide mic is parked. -/
def parkMic (gr : Group) (s : State) : State :=
  match gr.mic with
  | some u => park u s
  | none => s

/-- A group ends (05 R89): steps 1 to 3 and 5. The GROUP_EMPTY of step 4 is handed back for the caller to queue, since the notice
of the rule that closed the lease comes first (04 R69, log 20). -/
def endGroup (g : GroupNo) (s : State) : State × PendingEmpty :=
  let gr := s.group g
  ((parkMic gr (releaseChannel gr (releaseMic gr s))).updGroup g (fun _ => freeGroup), some (g, emptyDetail s gr))

/-- Steps 1 and 2 of 04 R69: the unit's lease fields and flags cleared, the member count of its group lowered. -/
def clearLease (u : UnitNo) (s : State) : State :=
  let s1 := s.updUnit u fun e =>
    { e with group := none, channel := none, deadline := none, overdue := false, lowReported := false }
  match (s.unit u).group with
  | some g => s1.updGroup g fun gr => { gr with members := gr.members - 1 }
  | none => s1

/-- A lease closed (04 R69): lease cleared, member counted out, a park order, and the ending of a CLOSING group left empty, whose
GROUP_EMPTY is handed back to be queued after the caller's own notice (log 20). -/
def closeLease (u : UnitNo) (s : State) : State × PendingEmpty :=
  let s1 := park u (clearLease u s)
  match (s.unit u).group with
  | some g => if (s1.group g).state = .closing ∧ (s1.group g).members = 0 then endGroup g s1 else (s1, none)
  | none => (s1, none)

/-- A unit whose deadline is reached and whose OVERDUE is clear (04 R67). A deadline exactly 2147483648 s behind the site time is reached (log
56). -/
def fallsOverdue (s : State) (e : UnitEntry) : Bool :=
  isOut e && !e.overdue &&
    match e.deadline with
    | some d => decide (leaseRemaining s d ≤ 0)
    | none => false

/-- One unit's deadline judged (04 R67). -/
def judgeDeadline (u : UnitNo) (s : State) : State :=
  let e := s.unit u
  if fallsOverdue s e then
    let late := saturate16 (s.siteTime - e.deadline.getD 0).toNat
    queueNotice .leaseOverdue (.unit u) (detail (groupNumber e.group) ((e.channel.map (·.val)).getD 0) late (late / 256))
      (s.updUnit u fun e => { e with overdue := true })
  else s

/-- The deadline check: units in ascending number (04 R67). -/
def judgeDeadlines (s : State) : State := (every 256).foldl (fun t u => judgeDeadline u t) s

/-! ## Removals (04 R79, R80, R72) -/

/-- A plain removal: LOOSE, no slot, no notice (04 R79). -/
def plainRemoval (u : UnitNo) (s : State) : State :=
  s.updUnit u fun e => { e with location := .loose, slot := none }

/-- A forced removal: LOOSE, no slot, UNIT_TAKEN (04 R80). -/
def forcedRemoval (u : UnitNo) (i : SlotIx) (was : SlotState) (s : State) : State :=
  let c := (s.unit u).charge
  queueNotice .unitTaken (.unit u) (detail i.val (slotStateCode was) c (c / 256)) (plainRemoval u s)

/-- An issue removal: ISSUED, no slot, no notice (04 R72). -/
def issueRemoval (u : UnitNo) (s : State) : State :=
  s.updUnit u fun e => { e with location := .issued, slot := none }

end Sys2Proof.Machine
end

