-- ==== Sys2Proof/Machine/Budget.lean ====
section
/-! DEFINITION. The budget arbiters (03): joining, leaving, evaluation, reduction and revocation, and Set Rack Budget. -/

namespace Sys2Proof.Machine

/-- The sum of a grant list (03 R49). -/
def sumGrants (gs : List Grant) : Nat := (gs.map (·.current)).sum

/-- The granted sum of a rack (03 R49). -/
def grantedSum (a : Rack) : Nat := sumGrants a.grants

/-- The remaining budget of a rack (03 R49). -/
def remaining (a : Rack) : Nat := a.budget - grantedSum a

/-- The current asked for a phase: the phase current in force (03 R51). -/
def asked (s : State) : Phase → Nat
  | .precharge => s.charge.precharge
  | .bulk => s.charge.bulk
  | .topoff => s.charge.topoff

/-- The slot state of a phase (02 R34). -/
def phaseState : Phase → SlotState
  | .precharge => .precharge
  | .bulk => .bulk
  | .topoff => .topoff

/-- The phase of a charging state (02 R34). -/
def phaseOf : SlotState → Option Phase
  | .precharge => some .precharge
  | .bulk => some .bulk
  | .topoff => some .topoff
  | _ => none

/-- What a grant does at its slot (02 R34): the pending phase begins at the granted current, bulk ran is noted, and a PRECHARGE or
TOPOFF timer that has not started starts from 0. -/
def takeGrant (ph : Phase) (amount : Nat) (sl : Slot) : Slot :=
  { sl with
    state := phaseState ph, pending := none, granted := some amount, bulkRan := sl.bulkRan || ph == .bulk,
    timer := if sl.timerOn then sl.timer else 0, timerOn := sl.timerOn || ph != .bulk, topoffFresh := ph == .topoff }

/-- The head of the wait list is granted (03 R52 step 3). -/
def grantHead (r : RackNo) (k : SlotNo) (ph : Phase) (s : State) : State :=
  changeSlot (slotIx r k) (takeGrant ph (asked s ph))
    (s.updRack r fun a => { a with waits := a.waits.tail, grants := a.grants ++ [⟨k, asked s ph⟩] })

/-- An evaluation (03 R52) along the wait list: the head is granted while it fits, and a head that does not fit blocks the rest. -/
def evaluateAlong (r : RackNo) : List SlotNo → State → State
  | [], s => s
  | k :: rest, s =>
    match (s.slot (slotIx r k)).pending with
    | some ph => if asked s ph ≤ remaining (s.rack r) then evaluateAlong r rest (grantHead r k ph s) else s
    | none => s

/-- An evaluation of a rack's wait list (03 R52). -/
def evaluate (r : RackNo) (s : State) : State := evaluateAlong r (s.rack r).waits s

/-- The slot stands in one of its arbiter's lists (03 R49). -/
def inArbiter (s : State) (i : SlotIx) : Bool :=
  (s.rack (rackOf i)).grants.any (·.slot == placeOf i) || (s.rack (rackOf i)).waits.contains (placeOf i)

/-- A slot's entry removed from its arbiter's lists at whatever position it holds (03 R53, R54), without evaluation. -/
def giveBack (i : SlotIx) (s : State) : State :=
  (s.updRack (rackOf i) fun a =>
    { a with grants := a.grants.filter (·.slot != placeOf i), waits := a.waits.filter (· != placeOf i) }).updSlot i
    fun sl => { sl with granted := none }

/-- A release or a withdrawal with the evaluation that follows it (03 R53, R54); a slot in neither list changes nothing. -/
def leaveArbiter (i : SlotIx) (s : State) : State :=
  if inArbiter s i then evaluate (rackOf i) (giveBack i s) else s

/-- A slot enters WAIT_BUDGET with a pending phase at the tail of its rack's wait list, and the list is evaluated (02 R34, 03 R51).
Any grant it held is given back in the same event (03 R50, release and join). -/
def joinWait (i : SlotIx) (ph : Phase) (s : State) : State :=
  let s1 := changeSlot i (fun sl => { sl with state := .waitBudget, pending := some ph }) (giveBack i s)
  evaluate (rackOf i) (s1.updRack (rackOf i) fun a => { a with waits := a.waits ++ [placeOf i] })

/-- The grant a slot keeps on entering TOPOFF from BULK: the top-off current, or its grant when that is no greater (03 R55). -/
def reducedGrant (s : State) (current : Nat) : Nat := min current s.charge.topoff

/-- The grant list after a reduction in place (03 R55). -/
def reduceGrants (s : State) (k : SlotNo) (gs : List Grant) : List Grant :=
  gs.map fun g => if g.slot = k then { g with current := reducedGrant s g.current } else g

/-- A slot in BULK enters TOPOFF with its grant reduced in place, its timer started from 0 and its first reading excluded from the
taper test (02 R37, R38, 03 R55); an evaluation follows when the amount fell. -/
def enterTopoff (i : SlotIx) (s : State) : State :=
  let was := grantedSum (s.rack (rackOf i))
  let s1 := s.updRack (rackOf i) fun a => { a with grants := reduceGrants s (placeOf i) a.grants }
  let s2 := changeSlot i
    (fun sl => { sl with
      state := .topoff, granted := sl.granted.map (reducedGrant s), timer := 0, timerOn := true, topoffFresh := true }) s1
  if grantedSum (s2.rack (rackOf i)) < was then evaluate (rackOf i) s2 else s2

/-- The grants that stand when the most recent are revoked until the sum fits: the list is given latest first (03 R57). -/
def fitGrants (budget : Nat) : List Grant → List Grant
  | [] => []
  | g :: rest => if sumGrants (g :: rest) ≤ budget then g :: rest else fitGrants budget rest

/-- The grants kept under a budget, in grant order (03 R57). -/
def keptGrants (budget : Nat) (gs : List Grant) : List Grant := (fitGrants budget gs.reverse).reverse

/-- The grants revoked under a budget, in grant order (03 R57, R58). -/
def revokedGrants (budget : Nat) (gs : List Grant) : List Grant := gs.drop (keptGrants budget gs).length

/-- A revoked slot leaves its phase for WAIT_BUDGET with that phase pending; accumulator, charge figure, bulk ran and phase timer
stay (03 R57). -/
def revokeSlot (i : SlotIx) (s : State) : State :=
  changeSlot i (fun sl => { sl with state := .waitBudget, pending := phaseOf sl.state, granted := none }) s

/-- A budget replaced, grants revoked where the sum exceeds it, the revoked slots placed together at the head of the wait list in
grant order, and an evaluation (03 R56 to R58). -/
def applyBudget (r : RackNo) (budget : Nat) (s : State) : State :=
  let gone := revokedGrants budget (s.rack r).grants
  let s1 := s.updRack r fun a =>
    { a with budget := budget, grants := keptGrants budget a.grants, waits := gone.map (·.slot) ++ a.waits }
  evaluate r (gone.foldl (fun t g => revokeSlot (slotIx r g.slot) t) s1)

/-- SET_RACK_BUDGET (03 R56). -/
def execSetRackBudget (q : Req) (rack budget : Nat) (s : State) : Host.Outcome State Fault Refusal :=
  .next <| serve .setRackBudget q (fun s =>
    match inRange 4 rack with
    | none => done s (refuse .range)
    | some r =>
      let applied := min budget 8000
      let gone := revokedGrants applied (s.rack r).grants
      let t := applyBudget r applied s
      done t ⟨.ok, ⟨decide (8000 < budget), applied == 0, false, applied == (s.rack r).budget⟩,
        .budget applied gone.length (grantedSum (t.rack r)) (remaining (t.rack r)) (t.rack r).waits.length⟩) s

end Sys2Proof.Machine
end

