-- ==== Sys2Proof/Machine/Slots.lean ====
section
/-! DEFINITION. The rack controller's shared operations: identification and arrivals (02 R30 to R33, 04 R75 to R78), the charge
cycle of one reading (02 R35 to R41), removal (02 R45), and the loss and return of a rack (02 R26, R27). -/

namespace Sys2Proof.Machine

/-! ## Charge figure (02 R28, R33) -/

/-- The voltage estimate in permille (02 R33). -/
def estimate (v : Nat) : Nat :=
  if v < 3300 then 0
  else if v < 3500 then 0 + (v - 3300) * 50 / 200
  else if v < 3650 then 50 + (v - 3500) * 100 / 150
  else if v < 3750 then 150 + (v - 3650) * 150 / 100
  else if v < 3850 then 300 + (v - 3750) * 200 / 100
  else if v < 3950 then 500 + (v - 3850) * 200 / 100
  else if v < 4050 then 700 + (v - 3950) * 150 / 100
  else if v < 4150 then 850 + (v - 4050) * 100 / 100
  else 950

/-- The first phase chosen from a voltage (02 R31). -/
def firstPhase (v : Nat) : Phase :=
  if v < 3300 then .precharge else if 4150 ≤ v then .topoff else .bulk

/-- The capacity used to count a slot's charge (02 R28). -/
def capacity (s : State) (o : Occupant) : Nat :=
  if holdsMic s o then s.charge.micCapacity else s.charge.receiverCapacity

/-- A charge figure written to an enrolled occupant's entry (02 R28). -/
def writeCharge (o : Occupant) (c : Nat) (s : State) : State :=
  match o with
  | .enrolled u => s.updUnit u fun e => { e with charge := c }
  | _ => s

/-- A slot's charge figure set, and with it an enrolled occupant's charge (02 R28). -/
def setCharge (i : SlotIx) (c : Nat) (s : State) : State :=
  writeCharge (s.slot i).occupant c (s.updSlot i fun sl => { sl with charge := c })

/-! ## Entering IDENTIFY and EMPTY -/

/-- Entry to IDENTIFY (02 R30): the stay's counters cleared, and the first identify attempt begun. -/
def startIdentify (sl : Slot) : Slot :=
  { sl with
    state := .identify, pending := none, acc := 0, bulkRan := false, timer := 0, timerOn := false, attempts := 0,
    attempting := true, granted := none, topoffFresh := false }

/-- A slot restarted at IDENTIFY with its occupant recorded as previous occupant (02 R27, R44). -/
def restartIdentify (sl : Slot) : Slot :=
  startIdentify { sl with previous := sl.occupant, occupant := .none }

/-- A slot becomes EMPTY (02 R45, R43): occupants, forced monitors, fault cause, latch window and pending phase gone. -/
def becomeEmpty (sl : Slot) : Slot :=
  { sl with
    state := .empty, pending := none, occupant := .none, previous := .none, attempting := false, granted := none,
    forced := noMonitors, cause := noMonitors, window := none }

/-! ## Arrivals (04 R75 to R78) -/

/-- The conflict's effect at the other slot (02 R32): what stands there stays as an unenrolled occupant with the same serial; a
READY unit leaves the queue, a latch window ends, and an identification loses its previous occupant. -/
def displace (j : SlotIx) (u : UnitNo) (s : State) : State :=
  let left := Occupant.unenrolled (s.unit u).serial
  match (s.slot j).state with
  | .identify => changeSlot j (fun sl => { sl with previous := .none }) s
  | .ready => changeSlot j (fun sl => { sl with state := .full, occupant := left }) (readyRemove u s)
  | .releasing => changeSlot j (fun sl => { sl with state := .full, occupant := left, window := none }) s
  | _ => changeSlot j (fun sl => { sl with occupant := left }) s

/-- A unit stands in a slot (04 R76 to R78). -/
def standIn (u : UnitNo) (i : SlotIx) (s : State) : State :=
  s.updUnit u fun e => { e with location := .inSlot, slot := some i }

/-- A return (04 R76): in the slot, lease closed, UNIT_RETURNED, then any GROUP_EMPTY. -/
def returnUnit (u : UnitNo) (i : SlotIx) (s : State) : State :=
  let e := s.unit u
  let r := closeLease u (standIn u i s)
  queueEmpty r.2 <| queueNotice .unitReturned (.unit u)
    (detail (groupNumber e.group) ((e.channel.map (·.val)).getD 0) i.val (if e.overdue then 1 else 0)) r.1

/-- The arrival of a loose unit (04 R77); a guide mic's LOW_REPORTED is cleared (01 R15). -/
def looseArrival (u : UnitNo) (i : SlotIx) (s : State) : State :=
  let e := s.unit u
  queueNotice .unitArrived (.unit u) (detail i.val (kindCode e.kind) 0 0) <|
    (standIn u i s).updUnit u fun e => { e with lowReported := e.lowReported && e.kind != .guideMic }

/-- An arrival in conflict (04 R78): the other slot's side first (02 R32), the lease of a RELEASING unit closed, the unit in its new
slot, UNIT_ARRIVED with the conflict marker, then any GROUP_EMPTY. -/
def conflictArrival (u : UnitNo) (i j : SlotIx) (s : State) : State :=
  let e := s.unit u
  let s1 := displace j u s
  let r := if e.location = .releasing then closeLease u s1 else (s1, none)
  queueEmpty r.2 <| queueNotice .unitArrived (.unit u) (detail i.val (kindCode e.kind) 1 j.val) (standIn u i r.1)

/-- An arrival handed to the roster, acted on by the location the fleet table shows (04 R75). A unit already shown in this very
slot is no arrival (log 26). -/
def arrival (u : UnitNo) (i : SlotIx) (s : State) : State :=
  let e := s.unit u
  match e.location with
  | .issued => returnUnit u i s
  | .loose => looseArrival u i s
  | .inSlot | .releasing =>
    match e.slot with
    | some j => if j = i then s else conflictArrival u i j s
    | none => looseArrival u i s

/-! ## Identification (02 R31) -/

/-- The enrolled unit that holds a serial (02 R31): none for serial 0. -/
def unitWithSerial (s : State) (serial : BitVec 32) : Option UnitNo :=
  if serial = 0 then none else (every 256).find? fun u => (s.unit u).kind != .vacant && (s.unit u).serial == serial

/-- The occupant a serial names (02 R31). -/
def occupantOf (s : State) (serial : BitVec 32) : Occupant :=
  match unitWithSerial s serial with
  | some u => .enrolled u
  | none => .unenrolled serial

/-- UNKNOWN_UNIT for an unenrolled occupant (02 R31), counted while start-up runs (12 R206). -/
def reportStranger (i : SlotIx) (o : Occupant) (s : State) : State :=
  match o with
  | .unenrolled serial =>
    let n := serial.toNat
    let s1 := queueNotice .unknownUnit (.slot i) (detail n (n / 256) (n / 65536) (n / 16777216)) s
    if s.phase = .startUp then { s1 with startUp := { s1.startUp with strangers := s1.startUp.strangers + 1 } } else s1
  | _ => s

/-- The previous occupant settled (02 R31, second): a different enrolled unit becomes LOOSE. -/
def settlePrevious (prev now : Occupant) (s : State) : State :=
  match prev with
  | .enrolled v => if prev = now then s else plainRemoval v s
  | _ => s

/-- An enrolled occupant that is not a restart is handed on as an arrival (02 R31, third). -/
def handArrival (i : SlotIx) (prev now : Occupant) (s : State) : State :=
  match now with
  | .enrolled u => if prev = now then s else arrival u i s
  | _ => s

/-- The voltage of a slot's last reading. -/
def lastVoltage (sl : Slot) : Nat := (sl.last.map (·.voltage)).getD 0

/-- An identification completes (02 R31): occupant settled, previous occupant settled, arrival handed on, charge estimated, first
phase chosen and the wait list joined. -/
def completeIdentify (i : SlotIx) (serial : BitVec 32) (s : State) : State :=
  let prev := (s.slot i).previous
  let now := occupantOf s serial
  let v := lastVoltage (s.slot i)
  let s1 := reportStranger i now s
  let s2 := settlePrevious prev now s1
  let s3 := s2.updSlot i fun sl => { sl with occupant := now, previous := .none, attempting := false }
  let s4 := handArrival i prev now s3
  joinWait i (firstPhase v) (setCharge i (estimate v) s4)

/-! ## One reading (02 R24, R35 to R41, R45) -/

/-- The measured current clamped to 0..2000 (02 R24). -/
def clampCurrent (x : Int) : Nat := if x < 0 then 0 else if 2000 < x then 2000 else x.toNat

/-- What the slot record keeps of a reading (02 R24). -/
def keptReading (rd : Reading) : LastReading :=
  { voltage := rd.voltage.toNat, temperature := rd.temperature.toInt, current := clampCurrent rd.current.toInt,
    clamped := decide (rd.current.toInt < 0) || decide (2000 < rd.current.toInt) }

/-- The phase a slot is in or waits for. -/
def currentPhase (sl : Slot) : Option Phase :=
  if sl.state = .waitBudget then sl.pending else phaseOf sl.state

/-- The phase timer's second (02 R35). -/
def tickTimer (sl : Slot) : Slot :=
  if sl.timerOn && (currentPhase sl == some .precharge || currentPhase sl == some .topoff) then
    { sl with timer := sl.timer + 1 }
  else sl

/-- The monitored states of 02 R40. -/
def isMonitored : SlotState → Bool
  | .waitBudget | .precharge | .bulk | .topoff | .full | .ready => true
  | _ => false

/-- The monitors violated at a reading in a monitored state, after the timer's second (02 R40). -/
def violated (sl : Slot) (rd : Reading) : Monitors :=
  { voltHigh := sl.forced.voltHigh || decide (4250 < rd.voltage.toNat),
    voltLow := sl.forced.voltLow || (currentPhase sl == some .precharge && sl.timerOn && decide (1800 ≤ sl.timer)),
    tempHigh := sl.forced.tempHigh || decide (450 < rd.temperature.toInt),
    tempLow := sl.forced.tempLow || ((phaseOf sl.state).isSome && decide (rd.temperature.toInt < 0)) }

/-- Some monitor of a set. -/
def anyMonitor (m : Monitors) : Bool := m.voltHigh || m.voltLow || m.tempHigh || m.tempLow

/-- The SLOT_FAULT detail: cause, enrolled, unit (11 R191). -/
def faultDetail (cause : Monitors) (o : Occupant) : Detail :=
  match o with
  | .enrolled u => detail (monitorsCode cause) 1 u.val 0
  | _ => detail (monitorsCode cause) 0 0 0

/-- BATTERY_FAULT set or cleared on an enrolled occupant (02 R41, R44). -/
def setBatteryFault (o : Occupant) (b : Bool) (s : State) : State :=
  match o with
  | .enrolled u => s.updUnit u fun e => { e with batteryFault := b }
  | _ => s

/-- Entry to FAULT (02 R41). -/
def enterFault (i : SlotIx) (cause : Monitors) (s : State) : State :=
  let sl := s.slot i
  let s1 := leaveArbiter i s
  let s2 := if sl.state = .ready then readyRemoveOccupant sl.occupant s1 else s1
  let s3 := setBatteryFault sl.occupant true s2
  let s4 := changeSlot i (fun t => { t with state := .fault, pending := none, granted := none, cause := cause }) s3
  queueNotice .slotFault (.slot i) (faultDetail cause sl.occupant) s4

/-- The accumulator and charge figure after one reading's current (02 R36): whole permille counted out of A, the figure stopping
at 999. -/
def countCharge (cap current acc charge : Nat) : Nat × Nat :=
  let q := 36 * cap
  let a := acc + 10 * current
  (a % q, if charge < 999 then min 999 (charge + a / q) else charge)

/-- The counting step of a reading in PRECHARGE, BULK or TOPOFF (02 R36). -/
def countReading (i : SlotIx) (rd : Reading) (s : State) : State :=
  let sl := s.slot i
  if (phaseOf sl.state).isSome then
    let r := countCharge (capacity s sl.occupant) (clampCurrent rd.current.toInt) sl.acc sl.charge
    setCharge i r.2 (s.updSlot i fun t => { t with acc := r.1 })
  else s

/-- The cycle count rises by 1, saturating at 65535 (01 R11, 02 R38). -/
def countCycle (o : Occupant) (s : State) : State :=
  match o with
  | .enrolled u => s.updUnit u fun e => { e with cycles := min 65535 (e.cycles + 1) }
  | _ => s

/-- A slot whose charge is ended becomes READY, its unit joining the tail of the ready queue, or FULL (02 R38 step 4). -/
def settleCharged (i : SlotIx) (s : State) : State :=
  match (s.slot i).occupant with
  | .enrolled u =>
    if eligible s u then
      readyAppend u (changeSlot i (fun sl => { sl with state := .ready, pending := none, granted := none }) s)
    else changeSlot i (fun sl => { sl with state := .full, pending := none, granted := none }) s
  | _ => changeSlot i (fun sl => { sl with state := .full, pending := none, granted := none }) s

/-- TOPOFF ends (02 R38): charge 1000, the cycle counted when BULK ran, the grant or place given back, READY or FULL. -/
def endTopoff (i : SlotIx) (s : State) : State :=
  let sl := s.slot i
  let s1 := setCharge i 1000 s
  let s2 := if sl.bulkRan then countCycle sl.occupant s1 else s1
  settleCharged i (leaveArbiter i s2)

/-- The phase change of a reading, made last (02 R24, R35, R37, R38). -/
def changePhase (i : SlotIx) (rd : Reading) (s : State) : State :=
  let sl := s.slot i
  match sl.state with
  | .precharge =>
    if 3300 ≤ rd.voltage.toNat then
      joinWait i .bulk (s.updSlot i fun t => { t with timer := 0, timerOn := false })
    else s
  | .bulk => if 4150 ≤ rd.voltage.toNat ∨ 950 ≤ sl.charge then enterTopoff i s else s
  | .topoff =>
    if 2700 ≤ sl.timer ∨ (sl.topoffFresh = false ∧ clampCurrent rd.current.toInt < s.charge.taper) then endTopoff i s
    else s.updSlot i fun t => { t with topoffFresh := false }
  | .waitBudget => if sl.pending = some .topoff ∧ sl.timerOn = true ∧ 2700 ≤ sl.timer then endTopoff i s else s
  | _ => s

/-- A reading with presence set in a monitored state: timer, monitors, counting, phase change, in that order (02 R24). -/
def monitoredReading (i : SlotIx) (rd : Reading) (s : State) : State :=
  let s1 := s.updSlot i tickTimer
  let cause := violated (s1.slot i) rd
  if anyMonitor cause then enterFault i cause s1 else changePhase i rd (countReading i rd s1)

/-- What a removal hands to the roster for an enrolled occupant, by the state in which it arrives (02 R45). -/
def handRemoval (i : SlotIx) (sl : Slot) (mic : Bool) (s : State) : State :=
  match sl.state, sl.occupant with
  | .identify, _ =>
    match sl.previous with
    | .enrolled u => plainRemoval u s
    | _ => s
  | .releasing, .enrolled u => issueRemoval u s
  | .fault, .enrolled u => plainRemoval u s
  | .full, .enrolled u => if mic then plainRemoval u s else forcedRemoval u i .full s
  | st, .enrolled u => forcedRemoval u i st s
  | _, _ => s

/-- A removal (02 R45): grant or place given back, a READY unit out of the queue, the slot EMPTY, then the roster's side. -/
def removal (i : SlotIx) (s : State) : State :=
  let sl := s.slot i
  let mic := holdsMic s sl.occupant
  let s1 := leaveArbiter i s
  let s2 := if sl.state = .ready then readyRemoveOccupant sl.occupant s1 else s1
  handRemoval i sl mic (changeSlot i becomeEmpty s2)

/-- One slot reading of an ONLINE rack, taken whole (02 R24). -/
def takeReading (i : SlotIx) (rd : Reading) (s : State) : State :=
  let st := (s.slot i).state
  let s1 := s.updSlot i fun sl => { sl with last := some (keptReading rd) }
  if rd.present then
    match st with
    | .empty => changeSlot i startIdentify s1
    | .identify => s1.updSlot i fun sl => { sl with attempting := true }
    | .releasing | .fault | .offline => s1
    | _ => monitoredReading i rd s1
  else
    match st with
    | .empty | .offline => s1
    | _ => removal i s1

/-! ## The latch window's end (04 R73, R74) -/

/-- The roster's side of a latch window that ends without removal: in the slot, lease closed, the slot's ending, ISSUE_TIMEOUT, then
any GROUP_EMPTY (04 R73, R74). Cause: 0 EXPIRED, 1 RACK_LOST. -/
def endWindow (u : UnitNo) (i : SlotIx) (cause : Nat) (atSlot : State → State) (s : State) : State :=
  let e := s.unit u
  let r := closeLease u (standIn u i s)
  queueEmpty r.2 <| queueNotice .issueTimeout (.unit u)
    (detail i.val (groupNumber e.group) ((e.channel.map (·.val)).getD 0) cause) (atSlot r.1)

/-- An expired window's slot relatches: READY with its unit at the head of the queue, or FULL (02 R46, 04 R73). -/
def relatch (u : UnitNo) (i : SlotIx) (s : State) : State :=
  if eligible s u then readyPush u (changeSlot i (fun sl => { sl with state := .ready, window := none }) s)
  else changeSlot i (fun sl => { sl with state := .full, window := none }) s

/-! ## Rack loss and return (02 R26, R27) -/

/-- A slot's record when its rack is lost (02 R26): an identification abandoned with its previous occupant restored; occupant,
forced monitors, fault cause, last reading and outputs kept. -/
def lostSlot (sl : Slot) : Slot :=
  let t := if sl.state = .identify then
      { sl with occupant := sl.previous, previous := .none, attempts := 0, attempting := false } else sl
  { t with state := .offline, pending := none, granted := none, window := none }

/-- One slot of a lost rack (02 R26): a READY unit leaves the queue, a latch window ends as an expiry (04 R74). -/
def loseSlot (i : SlotIx) (s : State) : State :=
  let sl := s.slot i
  let toOffline := fun t : State => t.updSlot i lostSlot
  match sl.state, sl.occupant with
  | .ready, o => toOffline (readyRemoveOccupant o s)
  | .releasing, .enrolled u => endWindow u i 1 toOffline s
  | _, _ => toOffline s

/-- The slots of a rack, ascending. -/
def slotsOf (r : RackNo) : List SlotIx := (every 16).map (slotIx r)

/-- A rack becomes OFFLINE (02 R26): its lists emptied at once (03 R53), then each slot, in ascending slot number, an order the model chose
(log 42). -/
def loseRack (r : RackNo) (s : State) : State :=
  (slotsOf r).foldl (fun t i => loseSlot i t)
    (s.updRack r fun a => { a with online := false, misses := 3, grants := [], waits := [] })

/-- One slot of a returning rack takes its reading (02 R27). A slot that becomes EMPTY so also has its fault cause set emptied (log 55). -/
def returnSlot (i : SlotIx) (rd : Reading) (s : State) : State :=
  let s1 := s.updSlot i fun sl => { sl with last := some (keptReading rd) }
  if rd.present then changeSlot i restartIdentify s1
  else
    let s2 := changeSlot i becomeEmpty s1
    match (s.slot i).occupant with
    | .enrolled u => plainRemoval u s2
    | _ => s2

/-- An OFFLINE rack answers (02 R27): ONLINE with count 0, and each slot takes its reading. -/
def returnRack (r : RackNo) (rds : Table Reading 16) (s : State) : State :=
  (every 16).foldl (fun t k => returnSlot (slotIx r k) (rds.get k) t)
    (s.updRack r fun a => { a with online := true, misses := 0 })

/-- The alarm output: asserted while at least one slot is in FAULT (02 R42). -/
def alarmOutput (s : State) : Bool := (every 64).any fun i => (s.slot i).state == .fault

end Sys2Proof.Machine
end

