-- ==== Sys2Proof/Machine/Rack.lean ====
section
/-! DEFINITION. The commands of the rack link and the requests about racks and slots (02). -/

namespace Sys2Proof.Machine

/-- The part is running: start-up has ended and no reset is held (12 R206 step 6). -/
def isRunning (s : State) : Bool := s.phase == .running

/-- The part is held in reset (12 R208). -/
def isHeld (s : State) : Bool := s.phase == .held

/-- RACK_POLL (02 R23): every slot's latch, setpoint and indicator restated to its module. Routine polling begins when start-up has
ended (12 R206). -/
def execRackPoll (s : State) : Host.Outcome State Fault Refusal :=
  .next <| if isRunning s then { s with slots := s.slots.map fun sl => { sl with sent := some sl.out } } else s

/-- Start-up's note that a rack's poll has been answered or missed (12 R206 step 4). -/
def notePoll (r : RackNo) (answered : Bool) (s : State) : State :=
  if s.phase = .startUp then
    { s with startUp := { s.startUp with
        polled := s.startUp.polled.set r true,
        answered := if answered then s.startUp.answered.set r true else s.startUp.answered } }
  else s

/-- RACK_ANSWER (02 R25, R27): an ONLINE rack's miss count becomes 0 and its readings arrive as SLOT_READING commands; an OFFLINE
rack returns and takes the readings just received. -/
def execRackAnswer (r : RackNo) (rds : Table Reading 16) (s : State) : Host.Outcome State Fault Refusal :=
  .next <|
    if isHeld s then s
    else
      let s1 := notePoll r true s
      if (s.rack r).online then s1.updRack r fun a => { a with misses := 0 } else returnRack r rds s1

/-- MISSED_POLL (02 R25, R26): the miss count rises, and at 3 the rack becomes OFFLINE; in OFFLINE the count is 3. -/
def execMissedPoll (r : RackNo) (s : State) : Host.Outcome State Fault Refusal :=
  .next <|
    if isHeld s then s
    else
      let s1 := notePoll r false s
      if (s.rack r).online then
        if (s.rack r).misses + 1 < 3 then s1.updRack r fun a => { a with misses := a.misses + 1 } else loseRack r s1
      else s1.updRack r fun a => { a with misses := 3 }

/-- SLOT_READING (02 R24): one reading of an ONLINE rack. The slots of an OFFLINE rack have no readings (02 R45). -/
def execSlotReading (r : RackNo) (k : SlotNo) (rd : Reading) (s : State) : Host.Outcome State Fault Refusal :=
  .next <| if isRunning s && (s.rack r).online then takeReading (slotIx r k) rd s else s

/-- An identify attempt is in progress at a slot (02 R30). -/
def awaitsSerial (s : State) (i : SlotIx) : Bool :=
  (s.slot i).state == .identify && (s.slot i).attempting

/-- SERIAL_ARRIVED (02 R30, R31): a serial within 300 ms completes the identification; a serial whose attempt has ended is
discarded. -/
def execSerialArrived (r : RackNo) (k : SlotNo) (serial : BitVec 32) (s : State) : Host.Outcome State Fault Refusal :=
  .next <| if awaitsSerial s (slotIx r k) then completeIdentify (slotIx r k) serial s else s

/-- A failed identify attempt counted (02 R30). -/
def countAttempt (i : SlotIx) (s : State) : State :=
  s.updSlot i fun sl => { sl with attempts := sl.attempts + 1, attempting := false }

/-- IDENTIFY_TIMEOUT (02 R30): the attempt failed; at the third the serial is unreadable and the identification completes with 0. -/
def execIdentifyTimeout (r : RackNo) (k : SlotNo) (s : State) : Host.Outcome State Fault Refusal :=
  .next <|
    if awaitsSerial s (slotIx r k) then
      let s1 := countAttempt (slotIx r k) s
      if (s1.slot (slotIx r k)).attempts < 3 then s1 else completeIdentify (slotIx r k) 0 s1
    else s

/-- A latch window runs out at its slot (02 R46, 04 R73). -/
def expireWindow (i : SlotIx) (s : State) : State :=
  match (s.slot i).occupant with
  | .enrolled u => endWindow u i 0 (relatch u i) s
  | _ => changeSlot i (fun sl => { sl with state := .full, window := none }) s

/-- LATCH_WINDOW_EXPIRY (02 R46, 04 R73): a RELEASING slot's window runs out before a removal reading. -/
def execLatchWindowExpiry (r : RackNo) (k : SlotNo) (s : State) : Host.Outcome State Fault Refusal :=
  .next <| if (s.slot (slotIx r k)).state = .releasing then expireWindow (slotIx r k) s else s

/-! ## Requests -/

/-- The summary of one slot (02 R48). -/
def summary (sl : Slot) : SlotSummary :=
  { state := sl.state, pending := sl.pending, occupant := sl.occupant, charge := sl.charge, last := sl.last,
    granted := sl.granted, timer := sl.timer, timerOn := sl.timerOn, forced := sl.forced, cause := sl.cause, latched := sl.out.latched }

/-- READ_RACK (02 R48): V when a last reading carries the clamp indicator, Z when no slot records an occupant. -/
def execReadRack (q : Req) (rack : Nat) (s : State) : Host.Outcome State Fault Refusal :=
  .next <| serve .readRack q (fun s =>
    match inRange 4 rack with
    | none => done s (refuse .range)
    | some r =>
      let sls := (slotsOf r).map s.slot
      done s ⟨.ok,
        ⟨sls.any fun sl => (sl.last.map (·.clamped)).getD false, sls.all fun sl => sl.occupant == .none, false, false⟩,
        .rack (s.rack r).online (s.rack r).misses (s.rack r).budget (grantedSum (s.rack r)) (sls.map summary)⟩) s

/-- Some phase current differs (02 R47). -/
def currentsDiffer (a b : ChargeSettings) : Bool :=
  a.precharge != b.precharge || a.bulk != b.bulk || a.topoff != b.topoff

/-- The charge settings written, with what follows (02 R47): every rack evaluated after a change of a phase current (03 R50), every
unit judged in ascending number after a change of the service limit (01 R12). -/
def applyCharge (c : ChargeSettings) (s : State) : State :=
  let s1 := { s with charge := c }
  let s2 := if currentsDiffer c s.charge then (every 4).foldl (fun t r => evaluate r t) s1 else s1
  if c.serviceLimit = s.charge.serviceLimit then s2 else (every 256).foldl (fun t u => judgeUnit u t) s2

/-- SET_CHARGE_SETTINGS (02 R47): V when a value was clamped, C when every setting already held the value written. -/
def execSetChargeSettings (q : Req) (c : ChargeSettings) (s : State) : Host.Outcome State Fault Refusal :=
  .next <| serve .setChargeSettings q (fun s =>
    done (applyCharge (clampCharge c) s) ⟨.ok, ⟨clampCharge c != c, false, false, clampCharge c == s.charge⟩, .none⟩) s

/-- The slot a request's rack and slot numbers name (02 R43, R44). -/
def namedSlot (rack slot : Nat) : Option SlotIx :=
  match inRange 4 rack, inRange 16 slot with
  | some r, some k => some (slotIx r k)
  | _, _ => none

/-- FORCE_MONITOR (02 R43): C when the new set equals the old, Z when it is empty. -/
def execForceMonitor (q : Req) (rack slot : Nat) (m : Monitors) (s : State) : Host.Outcome State Fault Refusal :=
  .next <| serve .forceMonitor q (fun s =>
    match namedSlot rack slot with
    | none => done s (refuse .range)
    | some i =>
      if (s.slot i).state = .empty then done s (refuse .conflict)
      else
        done (s.updSlot i fun sl => { sl with forced := m })
          ⟨.ok, ⟨false, m == noMonitors, false, m == (s.slot i).forced⟩, .none⟩) s

/-- A faulted slot restarted (02 R44): BATTERY_FAULT, forcing and cause cleared, the occupant recorded as previous occupant, and
IDENTIFY entered. -/
def restartFault (i : SlotIx) (s : State) : State :=
  changeSlot i (fun sl => restartIdentify { sl with forced := noMonitors, cause := noMonitors })
    (setBatteryFault (s.slot i).occupant false s)

/-- CLEAR_SLOT_FAULT (02 R44). -/
def execClearSlotFault (q : Req) (rack slot : Nat) (s : State) : Host.Outcome State Fault Refusal :=
  .next <| serve .clearSlotFault q (fun s =>
    match namedSlot rack slot with
    | none => done s (refuse .range)
    | some i => if (s.slot i).state = .fault then done (restartFault i s) (ok .none) else done s (refuse .conflict)) s

end Sys2Proof.Machine
end

