-- ==== Sys2Proof/Machine/Fleet.lean ====
section
/-! DEFINITION. The requests about the fleet table (01): reading, enrolment, retirement, marks, telemetry and Select Units. -/

namespace Sys2Proof.Machine

/-- READ_UNIT (01 R5): the entry in full with SERVICE_DUE; Z for a VACANT entry. -/
def execReadUnit (q : Req) (u : UnitNo) (s : State) : Host.Outcome State Fault Refusal :=
  .next <| serve .readUnit q (fun s =>
    done s ⟨.ok, { noCond with z := (s.unit u).kind == .vacant },
      .entry (s.unit u) (serviceDue s (s.unit u))⟩) s

/-! ## Enrolment (01 R6 to R9) -/

/-- The kind of entry a unit is enrolled as (01 R6). -/
def entryKind : UnitKind → EntryKind
  | .receiver => .receiver
  | .guideMic => .guideMic

/-- The non-vacant entry that holds a serial (01 R6). -/
def holderOf (s : State) (serial : BitVec 32) : Option UnitNo :=
  (every 256).find? fun u => (s.unit u).kind != .vacant && (s.unit u).serial == serial

/-- The lowest slot whose unenrolled occupant has a serial that has been read (01 R7). -/
def strangerSlot (s : State) (serial : BitVec 32) : Option SlotIx :=
  (every 64).find? fun i => (s.slot i).occupant == .unenrolled serial

/-- The entry an accepted Enrol Unit writes, before its location is settled (01 R6). -/
def newEntry (kind : UnitKind) (serial : BitVec 32) (marks : Byte) (cycles : Nat) : UnitEntry :=
  { vacantEntry with kind := entryKind kind, serial := serial, marks := marks, cycles := cycles }

/-- The new unit placed in the slot that holds its serial, its charge the slot's figure, and judged (01 R7). -/
def placeNew (u : UnitNo) (i : SlotIx) (s : State) : State :=
  judgeUnit u <|
    changeSlot i (fun sl => { sl with occupant := .enrolled u }) <|
      s.updUnit u fun e => { e with location := .inSlot, slot := some i, charge := (s.slot i).charge }

/-- An accepted Enrol Unit (01 R6, R7). -/
def enrol (u : UnitNo) (kind : UnitKind) (serial : BitVec 32) (marks : Byte) (cycles : Nat) (s : State) : State :=
  let s1 := s.updUnit u fun _ => newEntry kind serial marks cycles
  match strangerSlot s serial with
  | some i => placeNew u i s1
  | none => s1

/-- ENROL_UNIT (01 R6). -/
def execEnrolUnit (q : Req) (u : UnitNo) (kind : Option UnitKind) (serial : BitVec 32) (marks : Byte) (cycles : Half)
    (s : State) : Host.Outcome State Fault Refusal :=
  .next <| serve .enrolUnit q (fun s =>
    match kind with
    | none => done s (refuse .range)
    | some k =>
      if serial = 0 then done s (refuse .range)
      else if (s.unit u).kind ≠ .vacant then done s (refuse .conflict (.unitNumber u))
      else
        match holderOf s serial with
        | some v => done s (refuse .conflict (.unitNumber v))
        | none =>
          let t := enrol u k serial marks cycles.toNat s
          done t (ok (.enrolled (t.unit u).location (t.unit u).slot))) s

/-- A guide mic that a group holds (01 R8, R9). -/
def isAssignedMic (e : UnitEntry) : Bool := e.kind == .guideMic && e.assigned.isSome

/-- RETIRE_UNIT (01 R8). -/
def execRetireUnit (q : Req) (u : UnitNo) (s : State) : Host.Outcome State Fault Refusal :=
  .next <| serve .retireUnit q (fun s =>
    let e := s.unit u
    if e.kind = .vacant then done s (refuse .notFound)
    else if isOut e || isAssignedMic e then done s (refuse .conflict)
    else if e.retired then done s ⟨.ok, { noCond with c := true }, .none⟩
    else done (judgeUnit u (s.updUnit u fun e => { e with retired := true })) (ok .none)) s

/-- UNENROL_UNIT (01 R9). -/
def execUnenrolUnit (q : Req) (u : UnitNo) (s : State) : Host.Outcome State Fault Refusal :=
  .next <| serve .unenrolUnit q (fun s =>
    let e := s.unit u
    if e.kind = .vacant then done s (refuse .notFound)
    else if e.location ≠ .loose then done s (refuse .conflict)
    else if isAssignedMic e then done s (refuse .conflict)
    else done (s.updUnit u fun _ => vacantEntry) (ok .none)) s

/-! ## Marks (01 R10) -/

/-- Marks cleared, then set (01 R10). -/
def newMarks (old clearMask setMask : Byte) : Byte := (old &&& ~~~clearMask) ||| setMask

/-- SET_UNIT_MARKS (01 R10): the unit is judged when HOLD_BACK changes. -/
def execSetUnitMarks (q : Req) (u : UnitNo) (clearMask setMask : Byte) (s : State) : Host.Outcome State Fault Refusal :=
  .next <| serve .setUnitMarks q (fun s =>
    let old := (s.unit u).marks
    let new := newMarks old clearMask setMask
    let s1 := s.updUnit u fun e => { e with marks := new }
    if (s.unit u).kind = .vacant then done s (refuse .notFound)
    else
      done (if heldBack old = heldBack new then s1 else judgeUnit u s1)
        ⟨.ok, ⟨false, new == 0, false, new == old⟩, .marks old new⟩) s

/-! ## Telemetry (01 R13 to R16) -/

/-- Telemetry supplies the charge of a unit that is out of a slot (01 R14). -/
def takesCharge (e : UnitEntry) : Bool := e.location == .issued || e.location == .loose

/-- An entry after a heard record (01 R14). -/
def heardEntry (time : Time) (r : UnitReport) (e : UnitEntry) : UnitEntry :=
  { e with
    lastHeard := some time, signal := some (min r.signal.toNat 100),
    charge := if takesCharge e then min r.charge.toNat 1000 else e.charge }

/-- A record that sets V (01 R14). -/
def reportClamps (e : UnitEntry) (r : UnitReport) : Bool :=
  decide (100 < r.signal.toNat) || (takesCharge e && decide (1000 < r.charge.toNat))

/-- The low-charge check after a heard record (01 R15). -/
def lowCheck (u : UnitNo) (s : State) : State :=
  let e := s.unit u
  let mark := fun t : State => t.updUnit u fun e => { e with lowReported := true }
  if e.charge < s.charge.lowThreshold ∧ e.lowReported = false then
    if e.kind = .receiver ∧ e.location = .issued then
      queueNotice .unitLow (.unit u)
        (detail e.charge (e.charge / 256) (groupNumber e.group) ((e.channel.map (·.val)).getD 0)) (mark s)
    else
      match e.assigned with
      | some g =>
        if e.kind = .guideMic ∧ e.location = .loose then
          queueNotice .guideLow (.unit u)
            (detail e.charge (e.charge / 256) (g.val + 1) (((s.group g).channel.map (·.val)).getD 0)) (mark s)
        else s
      | none => s
  else s

/-- The three counts of Report Units and its V condition (01 R16). -/
structure ReportTally where
  applied : Nat
  unheard : Nat
  skipped : Nat
  clamped : Bool
  deriving DecidableEq, Repr

/-- One telemetry record applied (01 R14, R15). -/
def applyReport (r : UnitReport) (t : ReportTally × State) : ReportTally × State :=
  let e := t.2.unit r.unit
  if e.kind = .vacant then ({ t.1 with skipped := t.1.skipped + 1 }, t.2)
  else if r.heard then
    ({ t.1 with applied := t.1.applied + 1, clamped := t.1.clamped || reportClamps e r },
      lowCheck r.unit (t.2.updUnit r.unit (heardEntry t.2.siteTime r)))
  else ({ t.1 with unheard := t.1.unheard + 1 }, t.2)

/-- The records applied in the order they stand (01 R13). -/
def applyReports (rs : List UnitReport) (s : State) : ReportTally × State :=
  rs.foldl (fun t r => applyReport r t) (⟨0, 0, 0, false⟩, s)

/-- REPORT_UNITS (01 R13, R16): none or more than 16 records is BAD_LENGTH. -/
def execReportUnits (q : Req) (rs : List UnitReport) (s : State) : Host.Outcome State Fault Refusal :=
  .next <| serve .reportUnits q (fun s =>
    if rs.length = 0 ∨ 16 < rs.length then done s (refuse .badLength)
    else
      let t := applyReports rs s
      done t.2 ⟨.ok, ⟨t.1.clamped, t.1.applied == 0, false, false⟩, .reported t.1.applied t.1.unheard t.1.skipped⟩) s

/-! ## Select Units (01 R17 to R20) -/

/-- The value a field test reads, none where a candidate yields no value (01 R18). -/
def fieldValue (s : State) (f : SelectField) (e : UnitEntry) : Option (BitVec 32) :=
  match f with
  | .charge => some (BitVec.ofNat 32 e.charge)
  | .cycleCount => some (BitVec.ofNat 32 e.cycles)
  | .heardAge => e.lastHeard.map (s.siteTime - ·)
  | .leaseRemaining => if isOut e then e.deadline.map (· - s.siteTime) else none

/-- The relations of 01 R19: HI and LS unsigned, GT, LE, GE and LT two's complement. -/
def holds (r : Relation) (x y : BitVec 32) : Bool :=
  match r with
  | .eq => x == y
  | .ne => x != y
  | .hi => decide (y.toNat < x.toNat)
  | .ls => !decide (y.toNat < x.toNat)
  | .gt => decide (y.toInt < x.toInt)
  | .le => !decide (y.toInt < x.toInt)
  | .ge => decide (y.toInt ≤ x.toInt)
  | .lt => !decide (y.toInt ≤ x.toInt)

/-- The mark tests of 01 R20. -/
def markHolds (t : MarkTest) (mask marks : Byte) : Bool :=
  match t with
  | .off => true
  | .allSet => marks &&& mask == mask
  | .anyClear => marks &&& mask != mask

/-- The location filter of 01 R17. -/
def inFilter (q : SelectQuery) : Location → Bool
  | .inSlot => q.inSlot
  | .releasing => q.releasing
  | .issued => q.issued
  | .loose => q.loose

/-- An entry matches the query (01 R17). -/
def matchesQuery (s : State) (q : SelectQuery) (f : SelectField) (r : Relation) (t : MarkTest) (u : UnitNo) : Bool :=
  let e := s.unit u
  e.kind != .vacant && decide (q.start.val ≤ u.val) && inFilter q e.location && markHolds t q.mask e.marks &&
    match fieldValue s f e with
    | some x => holds r x q.operand
    | none => false

/-- SELECT_UNITS (01 R17): the total and the first 48 matches; N when truncated, Z when there is none. -/
def execSelectUnits (q : Req) (p : SelectQuery) (s : State) : Host.Outcome State Fault Refusal :=
  .next <| serve .selectUnits q (fun s =>
    match p.field, p.relation, p.markTest with
    | some f, some r, some t =>
      let found := (every 256).filter (matchesQuery s p f r t)
      done s ⟨.ok, ⟨false, found.length == 0, decide (48 < found.length), false⟩, .selected found.length (found.take 48)⟩
    | _, _, _ => done s (refuse .range)) s

end Sys2Proof.Machine
end

