-- ==== Sys2Proof/Machine/Issue.lean ====
section
/-! DEFINITION. Issue, issue settings and the site clock (04). Returns, timeouts and removals are the rack's commands. -/

namespace Sys2Proof.Machine

/-- The fleet entry of an issued unit (04 R71 step 3). -/
def issuedEntry (s : State) (g : Option GroupNo) (c : ChanNo) (e : UnitEntry) : UnitEntry :=
  { e with
    location := .releasing, group := g, channel := some c,
    deadline := some (s.siteTime + BitVec.ofNat 32 s.issue.leaseDuration) }

/-- A group's member count raised by 1 (04 R71 step 4). -/
def addMember (g : Option GroupNo) (s : State) : State :=
  match g with
  | some g => s.updGroup g fun gr => { gr with members := gr.members + 1 }
  | none => s

/-- The slot of an issued unit leaves READY for RELEASING with its latch window (04 R71 step 2, 02 R46). -/
def releaseSlot (u : UnitNo) (s : State) : State :=
  match (s.unit u).slot with
  | some i => changeSlot i (fun sl => { sl with state := .releasing, window := some s.issue.latchWindow }) s
  | none => s

/-- The READY_LOW judgement of an issue (04 R64). -/
def judgeReadyLow (u : UnitNo) (s : State) : State :=
  let n := s.ready.length
  if n < s.issue.readyThreshold ∧ s.armed = true then
    queueNotice .readyLow (.unit u) (detail n s.issue.readyThreshold 0 0) { s with armed := false }
  else s

/-- An accepted Issue Unit of unit u, the head of the ready queue (04 R71). -/
def issueTo (u : UnitNo) (g : Option GroupNo) (c : ChanNo) (s : State) : State :=
  let s1 := { s with ready := s.ready.tail }
  let s2 := releaseSlot u s1
  let s3 := s2.updUnit u (issuedEntry s2 g c)
  let s4 := addMember g s3
  judgeReadyLow u (enqueueOrder u (airCode s4.siteCode c) s4)

/-- The head of the ready queue issued, or NO_READY_UNIT (04 R70 check 4, R71). -/
def issueHead (g : Option GroupNo) (c : ChanNo) (s : State) : State × Option Answer :=
  match s.ready with
  | [] => done s (refuse .noReadyUnit)
  | u :: rest =>
    let t := issueTo u g c s
    let e := t.unit u
    done t ⟨.ok, { noCond with z := rest.isEmpty },
      .issued u (e.slot.getD 0) c (airCode s.siteCode c) (e.deadline.getD 0) rest.length⟩

/-- ISSUE_UNIT (04 R70, R71). -/
def execIssueUnit (q : Req) (group channel : Nat) (s : State) : Host.Outcome State Fault Refusal :=
  .next <| serve .issueUnit q (fun s =>
    if group = 0 then
      match inRange 12 channel with
      | none => done s (refuse .range)
      | some c =>
        if (s.channel c).state = .live ∨ (s.channel c).state = .hold then issueHead none c s
        else done s (refuse .conflict (.channelState (s.channel c).state))
    else
      match groupOf group with
      | none => done s (refuse .range)
      | some g =>
        match (s.group g).state, (s.group g).channel with
        | .opened, some c => issueHead (some g) c s
        | st, _ => done s (refuse .conflict (.groupState st))) s

/-- The issue settings written (04 R64, R65): a changed threshold that the count meets sets the arming indicator. -/
def applyIssue (c : IssueSettings) (s : State) : State :=
  { s with
    issue := c
    armed := s.armed || (c.readyThreshold != s.issue.readyThreshold && decide (c.readyThreshold ≤ s.ready.length)) }

/-- SET_ISSUE_SETTINGS (04 R65). -/
def execSetIssueSettings (q : Req) (c : IssueSettings) (s : State) : Host.Outcome State Fault Refusal :=
  .next <| serve .setIssueSettings q (fun s =>
    done (applyIssue (clampIssue c) s) ⟨.ok, ⟨clampIssue c != c, false, false, clampIssue c == s.issue⟩, .none⟩) s

/-- SET_TIME (04 R68): the site time alone, then the deadline check. -/
def execSetTime (q : Req) (t : Time) (s : State) : Host.Outcome State Fault Refusal :=
  .next <| serve .setTime q (fun s =>
    done (judgeDeadlines { s with siteTime := t }) ⟨.ok, { noCond with c := t == s.siteTime }, .times s.siteTime t⟩) s

/-- SITE_CLOCK_ADVANCE (04 R66, R67): the site time rises by 1 modulo 2^32 and the deadlines are judged. The clock stands at 0
until start-up ends. -/
def execSiteClockAdvance (s : State) : Host.Outcome State Fault Refusal :=
  .next <| if isRunning s then judgeDeadlines { s with siteTime := s.siteTime + 1 } else s

end Sys2Proof.Machine
end

