-- ==== Sys2Proof/Machine/Groups.lean ====
section
/-! DEFINITION. Tour groups and the draining of the tune queue (05). -/

namespace Sys2Proof.Machine

/-! ## Opening (05 R85, R86) -/

/-- The lowest-numbered FREE group record (05 R86). -/
def lowestFree (s : State) : Option GroupNo := (every 12).find? fun g => (s.group g).state == .free

/-- Why an Open Group on a channel in range is refused, in the order of 05 R85. -/
def openRefusal (s : State) (u : UnitNo) (c : ChanNo) : Option Answer :=
  let e := s.unit u
  let ch := s.channel c
  if e.kind ≠ .guideMic then some (refuse .conflict (.reason .micKind none))
  else if e.retired then some (refuse .conflict (.reason .micRetired none))
  else if e.assigned.isSome then some (refuse .conflict (.reason .micAssigned e.assigned))
  else if ch.config.mode ≠ .group then some (refuse .conflict (.modeReason ch.config.mode))
  else if ch.group.isSome then some (refuse .conflict (.reason .channelBound ch.group))
  else none

/-- The record of an opened group (05 R86 step 1). -/
def openedGroup (s : State) (u : UnitNo) (c : ChanNo) : Group :=
  { state := .opened, mic := some u, channel := some c, members := 0, openedAt := some s.siteTime }

/-- An accepted Open Group taking record g (05 R86). -/
def openAs (g : GroupNo) (u : UnitNo) (c : ChanNo) (s : State) : State :=
  let s1 := (s.updGroup g fun _ => openedGroup s u c).updUnit u fun e => { e with assigned := some g }
  enqueueOrder u (airCode s.siteCode c) (bindChannel c g s1)

/-- OPEN_GROUP (05 R85, R86). 05 R82 says a FREE record is always found; were there none, the request would be refused. -/
def execOpenGroup (q : Req) (u : UnitNo) (channel : Nat) (s : State) : Host.Outcome State Fault Refusal :=
  .next <| serve .openGroup q (fun s =>
    match inRange 12 channel with
    | none => done s (refuse .range)
    | some c =>
      match openRefusal s u c, lowestFree s with
      | some a, _ => done s a
      | none, some g => done (openAs g u c s) (ok (.opened g c (airCode s.siteCode c) s.siteTime))
      | none, none => done s (refuse .conflict)) s

/-! ## Closing (05 R87 to R89) -/

/-- A member whose deadline Close Group moves: its lease remaining exceeds the return grace (05 R88). A deadline exactly 2147483648 s behind
the site time is not moved (log 56). -/
def capped (s : State) (g : GroupNo) (e : UnitEntry) : Bool :=
  isMember g e &&
    match e.deadline with
    | some d => decide ((s.issue.returnGrace : Int) < leaseRemaining s d)
    | none => false

/-- The deadlines of a group's members capped at the return grace (05 R88). -/
def capDeadlines (g : GroupNo) (s : State) : State :=
  { s with fleet := s.fleet.map fun e =>
      if capped s g e then { e with deadline := some (s.siteTime + BitVec.ofNat 32 s.issue.returnGrace) } else e }

/-- The number of deadlines a cap moves (05 R87). -/
def cappedCount (s : State) (g : GroupNo) : Nat := ((every 256).filter fun u => capped s g (s.unit u)).length

/-- CLOSE_GROUP (05 R87). -/
def execCloseGroup (q : Req) (group : Nat) (s : State) : Host.Outcome State Fault Refusal :=
  .next <| serve .closeGroup q (fun s =>
    match groupOf group with
    | none => done s (refuse .range)
    | some g =>
      let gr := s.group g
      let moved := cappedCount s g
      match gr.state with
      | .free => done s (refuse .conflict)
      | .opened =>
        if gr.members = 0 then
          let r := endGroup g s
          done (queueEmpty r.2 r.1) ⟨.ok, { noCond with z := true }, .closed 0 0 .free⟩
        else
          done ((capDeadlines g s).updGroup g fun gr => { gr with state := .closing }) (ok (.closed gr.members moved .closing))
      | .closing =>
        done (capDeadlines g s)
          ⟨.ok, ⟨false, gr.members == 0, false, moved == 0⟩, .closed gr.members moved .closing⟩) s

/-! ## Moving (05 R90, R91) -/

/-- The counts of Move Group (05 R91). -/
structure FateCounts where
  joined : Nat
  replaced : Nat
  dropped : Nat
  deriving DecidableEq, Repr

/-- One order counted by its fate (05 R91). -/
def countFate (f : OrderFate) (n : FateCounts) : FateCounts :=
  match f with
  | .joined => { n with joined := n.joined + 1 }
  | .replaced => { n with replaced := n.replaced + 1 }
  | .dropped => { n with dropped := n.dropped + 1 }

/-- An order enqueued and counted (05 R91). -/
def countOrder (u : UnitNo) (air : Nat) (t : FateCounts × State) : FateCounts × State :=
  (countFate (orderFate t.2 u) t.1, enqueueOrder u air t.2)

/-- One member moved: its channel field, then its order (05 R91 step 3). -/
def moveMember (g : GroupNo) (c : ChanNo) (air : Nat) (t : FateCounts × State) (u : UnitNo) : FateCounts × State :=
  if isMember g (t.2.unit u) then
    countOrder u air (t.1, t.2.updUnit u fun e => { e with channel := some c })
  else t

/-- The old channel unbound and the new one bound, decided in that order (05 R91 step 1, 06 R116). -/
def rebind (g : GroupNo) (old new : ChanNo) (s : State) : State :=
  bindChannel new g (unbindChannel old (s.updGroup g fun gr => { gr with channel := some new }))

/-- The guide mic's order, ahead of any member's (05 R91 step 2). -/
def moveMic (mic : Option UnitNo) (air : Nat) (t : FateCounts × State) : FateCounts × State :=
  match mic with
  | some u => countOrder u air t
  | none => t

/-- An accepted Move Group (05 R91). -/
def moveTo (g : GroupNo) (old new : ChanNo) (s : State) : FateCounts × State :=
  let air := airCode s.siteCode new
  (every 256).foldl (moveMember g new air) (moveMic (s.group g).mic air (⟨0, 0, 0⟩, rebind g old new s))

/-- MOVE_GROUP (05 R90, R91). Named with the group's own channel it answers with all the items of 05 R91, the counts 0 (log 44). -/
def execMoveGroup (q : Req) (group channel : Nat) (s : State) : Host.Outcome State Fault Refusal :=
  .next <| serve .moveGroup q (fun s =>
    match groupOf group, inRange 12 channel with
    | some g, some c =>
      match (s.group g).state, (s.group g).channel with
      | .free, _ => done s (refuse .conflict (.reason .groupFree none))
      | _, none => done s (refuse .conflict (.reason .groupFree none))
      | _, some old =>
        if c = old then
          done s ⟨.ok, { noCond with c := true }, .moved old c (airCode s.siteCode c) 0 0 0⟩
        else if (s.channel c).config.mode ≠ .group then done s (refuse .conflict (.reason .channelMode none))
        else if (s.channel c).group.isSome then done s (refuse .conflict (.reason .channelBound (s.channel c).group))
        else
          let r := moveTo g old c s
          done r.2 ⟨.ok, { noCond with n := decide (0 < r.1.dropped) },
            .moved old c (airCode s.siteCode c) r.1.joined r.1.replaced r.1.dropped⟩
    | _, _ => done s (refuse .range)) s

/-! ## Reading groups and tuning (05 R96 to R99) -/

/-- The number of fleet entries that satisfy a test. -/
def countUnits (s : State) (f : UnitEntry → Bool) : Nat := ((every 256).filter fun u => f (s.unit u)).length

/-- READ_GROUP (05 R99): Z when the group is FREE. The rule gives the overdue and RELEASING counts to OPEN and CLOSING groups; a FREE group's
response carries them as well, both 0 (log 49). -/
def execReadGroup (q : Req) (group : Nat) (s : State) : Host.Outcome State Fault Refusal :=
  .next <| serve .readGroup q (fun s =>
    match groupOf group with
    | none => done s (refuse .range)
    | some g =>
      let gr := s.group g
      done s ⟨.ok, { noCond with z := gr.state == .free },
        .group gr (gr.channel.map (airCode s.siteCode)) (countUnits s fun e => isMember g e && e.overdue)
          (countUnits s fun e => isMember g e && e.location == .releasing)⟩) s

/-- FETCH_TUNE_ORDERS (05 R96): up to 16 orders from the head; Z when none, N when some are left. RESYNC is reported and kept. -/
def execFetchTuneOrders (q : Req) (s : State) : Host.Outcome State Fault Refusal :=
  .next <| serve .fetchTuneOrders q (fun s =>
    let left := s.tune.drop 16
    done { s with tune := left }
      ⟨.ok, ⟨false, s.tune.isEmpty, !left.isEmpty, false⟩, .orders left.length s.resync (s.tune.take 16)⟩) s

/-- The map entry of a unit out on lease: its channel field's air code (05 R97). -/
def mapEntry (s : State) (u : UnitNo) : Option Order :=
  if isOut (s.unit u) then some ⟨u, airCode s.siteCode ((s.unit u).channel.getD 0)⟩ else none

/-- The restart option empties the tune queue and clears RESYNC (05 R98). -/
def restartMap (restart : Bool) (s : State) : State :=
  if restart then { s with tune := [], resync := false } else s

/-- READ_TUNE_MAP (05 R97, R98): page p covers units 32p to 32p + 31; N when a unit above the page is out, Z when the page is empty,
C when a restart found the queue empty and RESYNC clear. -/
def execReadTuneMap (q : Req) (page : Nat) (restart : Bool) (s : State) : Host.Outcome State Fault Refusal :=
  .next <| serve .readTuneMap q (fun s =>
    if 7 < page then done s (refuse .range)
    else
      let entries := (every 256).filterMap (mapEntry s)
      let here := entries.filter fun o => decide (32 * page ≤ o.unit.val ∧ o.unit.val < 32 * page + 32)
      let above := entries.any fun o => decide (32 * page + 32 ≤ o.unit.val)
      done (restartMap restart s)
        ⟨.ok, ⟨false, here.isEmpty, above, restart && s.tune.isEmpty && !s.resync⟩, .tuneMap entries.length here⟩) s

end Sys2Proof.Machine
end

