-- ==== Sys2Proof/Machine/Channels.lean ====
section
/-! DEFINITION. The requests about the channel plan (06): Report Guide Links, Set Channel and Read Channel Plan, and the rules a
channel form must meet, which the record load uses too (06 R118). -/

namespace Sys2Proof.Machine

/-! ## Guide links (06 R107 to R109, R115) -/

/-- A link quality as taken: at most 100 (06 R108). -/
def takenQuality (r : LinkReport) : Nat := min r.quality.toNat 100

/-- A record whose quality is clamped (06 R108): it carries a unit with a quality above 100. A record without a unit has its quality
taken as 0 whatever it holds, which is no clamp. -/
def linkClamps (r : LinkReport) : Bool := r.present && decide (100 < r.quality.toNat)

/-- The table with a unit absent, quality 0, wherever an entry names it (06 R109 step 2). -/
def dropUnit (u : UnitNo) (t : Table Link 8) : Table Link 8 :=
  t.map fun l => if l.unit = some u then ⟨none, 0⟩ else l

/-- One record applied to the guide link table (06 R109 step 2). -/
def applyLink (t : Table Link 8) (r : LinkReport) : Table Link 8 :=
  match inRange 8 r.input with
  | none => t
  | some k => if r.present then (dropUnit r.unit t).set k ⟨some r.unit, takenQuality r⟩ else t.set k ⟨none, 0⟩

/-- The records applied in the order they stand. -/
def applyLinks (rs : List LinkReport) (t : Table Link 8) : Table Link 8 := rs.foldl applyLink t

/-- A group that is OPEN or CLOSING. -/
def inUse (g : Group) : Bool := g.state != .free

/-- The input that carries a group's guide mic, for an OPEN or CLOSING group (06 R109 step 1). -/
def groupCarriedOn (s : State) (g : GroupNo) : Option (Fin 8) :=
  if inUse (s.group g) then (s.group g).mic.bind (carriedOn s) else none

/-- A group whose guide mic lost its carriage between two states (06 R109 step 3). -/
def lostGuide (before after : State) (g : GroupNo) : Bool :=
  (groupCarriedOn before g).isSome && (groupCarriedOn after g).isNone

/-- GUIDE_LOST for one group that lost its guide (06 R115). -/
def reportLostGuide (before : State) (g : GroupNo) (s : State) : State :=
  let gr := s.group g
  match gr.mic, groupCarriedOn before g with
  | some u, some k =>
    let named := (every 8).any fun j => (s.links.get j).unit == some u
    queueNotice .guideLost (.unit u)
      (detail (g.val + 1) ((gr.channel.map (·.val)).getD 0) k.val (if named then 1 else 0)) s
  | _, _ => s

/-- The groups that lost their guide, ascending (06 R109 step 3). -/
def lostGuides (before after : State) : List GroupNo := (every 12).filter (lostGuide before after)

/-- The bound channels, ascending (06 R109 step 4). -/
def boundChannels (s : State) : List ChanNo := (every 12).filter fun c => (s.channel c).group.isSome

/-- An accepted Report Guide Links (06 R109). -/
def takeLinks (rs : List LinkReport) (s : State) : State :=
  let s1 := { s with links := applyLinks rs s.links }
  let s2 := (lostGuides s s1).foldl (fun t g => reportLostGuide s g t) s1
  decideEach (boundChannels s2) s2

/-- The entries whose unit is present and names no enrolled guide mic (06 R109). -/
def strangerLinks (s : State) : Nat :=
  ((every 8).filter fun k =>
    match (s.links.get k).unit with
    | some u => (s.unit u).kind != .guideMic
    | none => false).length

/-- The position of the first record for which a test holds, from 0 (log 16). -/
def positionOf {α : Type} (f : α → Bool) (l : List α) : Option Nat := l.findIdx? f

/-- REPORT_GUIDE_LINKS (06 R108, R109). -/
def execReportGuideLinks (q : Req) (rs : List LinkReport) (s : State) : Host.Outcome State Fault Refusal :=
  .next <| serve .reportGuideLinks q (fun s =>
    if rs.length = 0 ∨ 8 < rs.length then done s (refuse .badLength)
    else
      match positionOf (fun r => decide (7 < r.input)) rs with
      | some i => done s (refuse .range (.position i))
      | none =>
        let t := applyLinks rs s.links
        done (takeLinks rs s)
          ⟨.ok, ⟨rs.any linkClamps, t.cells.all (·.unit.isNone), false, t == s.links⟩,
            .linked rs.length (strangerLinks { s with links := t }) (lostGuides s { s with links := t }).length⟩) s

/-! ## Set Channel (06 R102 to R104, 07 R134) -/

/-- The position of the second entry of a source named twice (06 R103 check 3). Where two sources are each named twice it is the second entry
that stands first in the list (log 50). -/
def secondNaming : List MixEntry → List Nat → Nat → Option Nat
  | [], _, _ => none
  | e :: rest, seen, i => if seen.contains e.source then some i else secondNaming rest (e.source :: seen) (i + 1)

/-- A mix list entry that the mode does not allow (06 R102). -/
def entryBarred (mode : ChannelMode) (fixed : Nat) (e : MixEntry) : Bool :=
  match mode with
  | .disabled => false
  | .group => decide (e.source < 8)
  | .fixed => e.source == fixed

/-- The checks 2 to 4 of 06 R103 on a form, its mode apart. -/
def formRefusal (f : ChannelForm) (mode : ChannelMode) : Option Answer :=
  if (mode = .fixed ∧ 15 < f.fixedSource) ∨ f.mixList.any (fun e => decide (15 < e.source)) = true ∨ 96 < f.holdClip then
    some (refuse .range)
  else
    match secondNaming f.mixList [] 0 with
    | some i => some (refuse .range (.position i))
    | none => (positionOf (entryBarred mode f.fixedSource) f.mixList).map fun i => refuse .range (.position i)

/-- A mix list entry as the record keeps it; no entry for a source above 15. -/
def keptEntry (e : MixEntry) : Option MixSource :=
  (inRange 16 e.source).map fun k => ⟨k, e.gain.toNat⟩

/-- The configured fields that a form writes, the duck level taken as at most 32768 (06 R103, R104). -/
def formConfig (f : ChannelForm) (mode : ChannelMode) : ChannelConfig :=
  { mode := mode, language := f.language, fixedSource := f.fixedSource, primaryGain := f.primaryGain.toNat,
    mixList := f.mixList.filterMap keptEntry, announceGain := f.announceGain.toNat, duckLevel := min f.duckLevel 32768,
    holdClip := clipNumber f.holdClip, masterGain := f.masterGain.toNat, floorGain := f.floorGain.toNat }

/-- Set Channel restarts the mix engine's state of its channel (07 R134). -/
def restartMix (emergency : Bool) (master : Nat) (m : Mix) : Mix :=
  if emergency then { m with duck := 32768 } else { duck := 32768, master := master, tally := 0 }

/-- Steps 1 and 2 of 06 R104. -/
def writeChannel (c : ChanNo) (f : ChannelConfig) (s : State) : State :=
  (s.updChannel c fun ch => { ch with config := f }).updMix c (restartMix ((s.channel c).state == .emergency) f.masterGain)

/-- A channel's hold clip written, without a decision. -/
def setHoldClip (c : ChanNo) (v : Option Nat) (s : State) : State :=
  s.updChannel c fun ch => { ch with config := { ch.config with holdClip := v } }

/-- A channel that stays in HOLD leaves its hold player (09 R171): it asks for nothing until it asks for its new clip, so an offer made
on the way does not serve it (09 R170 step 1, log 24). -/
def leaveForNewClip (c : ChanNo) (s : State) : State :=
  setHoldClip c (s.channel c).config.holdClip (leaveHold c (setHoldClip c none s))

/-- Step 4 of 06 R104: a channel in HOLD before and after asks again when its hold clip has changed. -/
def reholdChannel (c : ChanNo) (before : Channel) (s : State) : State :=
  let ch := s.channel c
  if before.state = .hold ∧ ch.state = .hold ∧ before.config.holdClip ≠ ch.config.holdClip then
    match ch.config.holdClip with
    | some clip => requestHold c clip (leaveForNewClip c s)
    | none => leaveForNewClip c s
  else s

/-- Step 5 of 06 R104: a channel that stays in EMERGENCY leaves its player and is assigned again (10 R178). -/
def reassignChannel (c : ChanNo) (before : ChannelState) (s : State) : State :=
  if before = .emergency ∧ (s.channel c).state = .emergency then assignEmergency c (unassignEmergency c s) else s

/-- An accepted Set Channel (06 R104). -/
def setChannelTo (c : ChanNo) (f : ChannelConfig) (s : State) : State :=
  reassignChannel c (s.channel c).state <|
    reholdChannel c (s.channel c) <|
      decideChannel c (writeChannel c f s)

/-- Check 5 of 06 R103: a bound channel may not leave GROUP mode. -/
def boundRefusal (ch : Channel) (mode : ChannelMode) : Option Answer :=
  if mode = .group then none else ch.group.map fun g => refuse .conflict (.boundGroup g)

/-- SET_CHANNEL (06 R103, R104). -/
def execSetChannel (q : Req) (channel : Nat) (f : ChannelForm) (s : State) : Host.Outcome State Fault Refusal :=
  .next <| serve .setChannel q (fun s =>
    if 4 < f.mixList.length then done s (refuse .badLength)
    else
      match inRange 12 channel, f.mode with
      | some c, some mode =>
        match formRefusal f mode, boundRefusal (s.channel c) mode with
        | some a, _ => done s a
        | none, some a => done s a
        | none, none =>
          let t := setChannelTo c (formConfig f mode) s
          done t ⟨.ok, ⟨decide (32768 < f.duckLevel), false, false, formConfig f mode == (s.channel c).config⟩,
            .channelSet (t.channel c).state (t.channel c).primary⟩
      | _, _ => done s (refuse .range)) s

/-! ## Read Channel Plan (06 R117) -/

/-- One channel record with its air code and live master gain (06 R117). -/
def channelReport (s : State) (c : ChanNo) : ChannelReport :=
  { record := s.channel c, air := airCode s.siteCode c, master := (s.mix.get c).master }

/-- The channels of part p: 4p to 4p + 3 (06 R117). -/
def partChannels (p : Nat) : List ChanNo := (every 12).filter fun c => c.val / 4 == p

/-- READ_CHANNEL_PLAN (06 R117). -/
def execReadChannelPlan (q : Req) (part : Nat) (s : State) : Host.Outcome State Fault Refusal :=
  .next <| serve .readChannelPlan q (fun s =>
    if part < 3 then
      done s ⟨.ok, { noCond with z := (partChannels part).all fun c => (s.channel c).state == .off },
        .channels ((partChannels part).map (channelReport s))⟩
    else if part = 3 then
      done s ⟨.ok, { noCond with z := s.presence.cells.all fun p => !p.present },
        .plan (s.presence.cells.map (·.present)) s.links.cells (s.channels.cells.map (·.state)) (isRaised s)⟩
    else done s (refuse .range)) s

end Sys2Proof.Machine
end

