-- ==== Sys2Proof/Machine/Mix.lean ====
section
/-! DEFINITION. The audio frame: input presence (06 R105, R106), the samples the players give (09 R163, R164), the mix engine
(07 R119 to R132) and the end of its window (07 R131). -/

namespace Sys2Proof.Machine

/-! ## Presence (06 R105, R106) -/

/-- The absent marker, the input code -32768 (06 6.3). -/
def absentCode : Half := 0x8000

/-- One presence record after one input code (06 R105). -/
def hear (code : Half) (p : Presence) : Presence :=
  if code = absentCode then
    { present := p.present && decide (min 1600 (p.absentRun + 1) < 1600), absentRun := min 1600 (p.absentRun + 1), presentRun := 0 }
  else
    { present := p.present || decide (320 ≤ min 320 (p.presentRun + 1)), absentRun := 0, presentRun := min 320 (p.presentRun + 1) }

/-- Every presence record after one frame (06 R105). -/
def hearAll (codes : Table Half 16) (t : Table Presence 16) : Table Presence 16 :=
  Table.ofFn fun k => hear (codes.get k) (t.get k)

/-- The channels that a frame's presence changes decide again, ascending (06 R106): those whose resolved source changed. -/
def heardChannels (before s : State) : List ChanNo :=
  (every 12).filter fun c =>
    match resolvedSource s c with
    | some k => (before.presence.get k).present != (s.presence.get k).present
    | none => false

/-- The frame's presence update and the decisions it causes (06 R105, R106). -/
def takePresence (codes : Table Half 16) (s : State) : State :=
  let s1 := { s with presence := hearAll codes s.presence }
  decideEach (heardChannels s s1) s1

/-! ## Player samples (09 R163, R164) -/

/-- The magnitude of a companded code (09 R164). -/
def magnitude (code : Byte) : Nat :=
  let e := code.toNat / 16 % 8
  let m := code.toNat % 16
  (2 * m + 33) * 2 ^ e - 33

/-- The sample a companded code expands into (09 R164). -/
def expand (code : Byte) : Int :=
  if code.msb then -(4 * (magnitude code : Int)) else 4 * (magnitude code : Int)

/-- The play's position and loops after one sample (09 R163). The last sample of the last loop leaves the record to be ended once
the frame is computed. -/
def advance (total : Nat) (q : Player) : Player :=
  if q.position + 1 = total then
    if q.loops = 1 then q else { q with position := 0, loops := q.loops - 1 }
  else { q with position := q.position + 1 }

/-- The sample a player gives in a frame (09 R161, R163). -/
def sampleOf (q : Player) : Int :=
  if q.state = .playing then
    match q.buffer with
    | code :: _ => expand code
    | [] => 0
  else 0

/-- The player gives the last sample of its last loop in this frame (09 R163). -/
def givesLast (s : State) (p : PlayerNo) : Bool :=
  let q := s.player p
  q.state == .playing && !q.buffer.isEmpty && q.position + 1 == clipTotal s (clipOrZero q.clip) && q.loops == 1

/-- The detail of PLAYER_UNDERRUN (11 R191): clip, the position in the low 21 bits of bytes 1..3, the owner in the top two. -/
def underrunDetail (q : Player) : Detail :=
  let n := q.position % 2097152 + 4194304 * ((q.owner.map ownerCode).getD 0)
  detail (clipOrZero q.clip) n (n / 256) (n / 65536)

/-- A player's side of a frame (09 R163): its oldest code leaves the buffer, or it underruns; the refill conditions are then checked
again. -/
def giveSample (p : PlayerNo) (s : State) : State :=
  let q := s.player p
  if q.state = .playing then
    match q.buffer with
    | _ :: rest =>
      placeRead p (s.updPlayer p fun q => advance (clipTotal s (clipOrZero q.clip)) { q with buffer := rest })
    | [] =>
      let s1 := s.updPlayer p fun q => { q with underrun := true }
      placeRead p (if q.underrun then s1 else queueNotice .playerUnderrun (.player p) (underrunDetail q) s1)
  else s

/-- Every player's side of a frame, in ascending player number, an order the model chose (log 42). -/
def giveSamples (s : State) : State := (every 6).foldl (fun t p => giveSample p t) s

/-! ## The mix (07 R121 to R132) -/

/-- An entry of a B or C set: a sample and a gain (07 7.2). -/
structure Entry where
  sample : Int
  gain : Nat
  deriving DecidableEq, Repr

/-- The sample of an input code (07 R124): the absent marker is 0. -/
def inputSample (code : Half) : Int := if code = absentCode then 0 else code.toInt

/-- What the engine reads in a frame: the input codes and the players' samples (07 R120). -/
structure FrameInput where
  codes : Table Half 16
  samples : Table Int 6
  deriving DecidableEq, Repr

/-- The entry of an input source. -/
def inputEntry (fi : FrameInput) (k : SourceNo) (gain : Nat) : Entry := ⟨inputSample (fi.codes.get k), gain⟩

/-- The mix list's entries (07 R121). -/
def listEntries (fi : FrameInput) (ch : Channel) : List Entry :=
  ch.config.mixList.map fun e => inputEntry fi e.source e.gain

/-- The paging input (00_scope 4.4). -/
def pagingSource : SourceNo := 15

/-- The B set of a channel (07 R121, R123, R132). -/
def bSet (s : State) (fi : FrameInput) (c : ChanNo) : List Entry :=
  let ch := s.channel c
  match ch.state with
  | .off => []
  | .live => (ch.primary.map fun k => inputEntry fi k ch.config.primaryGain).toList ++ listEntries fi ch
  | .hold => (ch.holdPlayer.map fun p => Entry.mk (fi.samples.get p) ch.config.primaryGain).toList ++ listEntries fi ch
  | .emergency => ((s.emergency.assigned.get c).map fun p => Entry.mk (fi.samples.get p) 16384).toList

/-- The players that announce into a channel (07 R122). -/
def announcers (s : State) (c : ChanNo) : List PlayerNo :=
  (every 6).filter fun p => (s.player p).owner == some .announce && (s.player p).channels.contains c

/-- The C set of a channel (07 R122, R123, R132). -/
def cSet (s : State) (fi : FrameInput) (c : ChanNo) : List Entry :=
  let ch := s.channel c
  match ch.state with
  | .off => []
  | .live | .hold => (announcers s c).map fun p => Entry.mk (fi.samples.get p) ch.config.announceGain
  | .emergency => if (s.presence.get pagingSource).present then [inputEntry fi pagingSource 16384] else []

/-- One term: the sample scaled by gain / 16384, halves rounded upward (07 R125). Division is rounded down. -/
def term (e : Entry) : Int := (e.sample * e.gain + 8192) / 16384

/-- The sum of a set's terms (07 R126). -/
def sumTerms (es : List Entry) : Int := (es.map term).sum

/-- One step of the duck toward its target (07 R127). -/
def stepDuck (d target : Nat) : Nat :=
  if target < d then d - min 32 (d - target) else d + min 32 (target - d)

/-- The duck target (07 R127, R132). -/
def duckTarget (ch : Channel) (cEntries : List Entry) : Nat :=
  if cEntries.isEmpty then 32768 else ch.config.duckLevel

/-- The ducked output (07 R128). -/
def duckedOut (b c : Int) (d : Nat) : Int := c + (b * d + 16384) / 32768

/-- The master scaling (07 R129). -/
def scaleOut (out : Int) (m : Nat) : Int := (out * m + 8192) / 16384

/-- The clamp into a 16-bit sample (07 R130). -/
def clampSample (y : Int) : Int := if 32767 < y then 32767 else if y < -32768 then -32768 else y

/-- The sample was limited (07 R130). -/
def isClamped (y : Int) : Bool := decide (32767 < y) || decide (y < -32768)

/-- The duck a channel uses in a frame (07 R127). -/
def nextDuck (s : State) (fi : FrameInput) (c : ChanNo) : Nat :=
  stepDuck (s.mix.get c).duck (duckTarget (s.channel c) (cSet s fi c))

/-- The master gain a frame uses: 16384 in EMERGENCY (07 R129, R132). -/
def masterInUse (ch : Channel) (m : Mix) : Nat := if ch.state = .emergency then 16384 else m.master

/-- A channel's unclamped sample (07 R128, R129); an OFF channel's is 0 (07 R123). -/
def unclamped (s : State) (fi : FrameInput) (c : ChanNo) : Int :=
  if (s.channel c).state = .off then 0
  else
    scaleOut (duckedOut (sumTerms (bSet s fi c)) (sumTerms (cSet s fi c)) (nextDuck s fi c))
      (masterInUse (s.channel c) (s.mix.get c))

/-- The engine's items of a channel after a frame (07 R123, R127, R130, R132). -/
def mixAfter (s : State) (fi : FrameInput) (c : ChanNo) : Mix :=
  let m := s.mix.get c
  let counts := (s.channel c).state != .emergency && isClamped (unclamped s fi c)
  { m with duck := nextDuck s fi c, tally := if counts then m.tally + 1 else m.tally }

/-- The twelve samples of a frame (07 R120, R130). -/
def outputs (s : State) (fi : FrameInput) : Table Int 12 := Table.ofFn fun c => clampSample (unclamped s fi c)

/-- The computation of a frame from the state its decisions left (07 R120). -/
def compute (s : State) (fi : FrameInput) : State :=
  { s with mix := Table.ofFn (mixAfter s fi), outNext := outputs s fi, window := s.window + 1 }

/-- The samples computed at the last frame stand in this frame's output slots (07 R120). -/
def sendOutputs (s : State) : State := { s with outNow := s.outNext }

/-- What output slot k of the audio link carries in this frame: slots 0..11 their channels' samples (07 R120), slots 12..15 the value 0
(11 R202). -/
def outputSlot (s : State) (k : Fin 16) : Int :=
  match inRange 12 k.val with
  | some c => s.outNow.get c
  | none => 0

/-- Plays that gave their last sample end, in ascending player number, an order the model chose (09 R163, R165, log 42). -/
def endPlays (ps : List PlayerNo) (s : State) : State := ps.foldl (fun t p => endPlay p .completed t) s

/-- A frame's samples and mix, after the channel plan's decisions: what the players give is read before their buffers move. -/
def mixFrame (codes : Table Half 16) (s : State) : State :=
  let fi : FrameInput := { codes := codes, samples := Table.ofFn fun p => sampleOf (s.player p) }
  endPlays ((every 6).filter (givesLast s)) (compute (giveSamples s) fi)

/-! ## The window (07 R131) -/

/-- The gain after a trim (07 R131). -/
def trimmedGain (floor m : Nat) : Nat := max floor (m - m / 16)

/-- The trim conditions (07 R131 step 1). -/
def needsTrim (ch : Channel) (m : Mix) : Bool :=
  ch.state != .emergency && decide (8 ≤ m.tally) && decide (ch.config.floorGain < m.master)

/-- One channel at the window's end (07 R131). -/
def endWindowFor (c : ChanNo) (s : State) : State :=
  let ch := s.channel c
  let m := s.mix.get c
  let after := trimmedGain ch.config.floorGain m.master
  if needsTrim ch m then
    queueNotice .channelTrimmed (.channel c) (detail m.master (m.master / 256) after (after / 256))
      (s.updMix c fun m => { m with master := after, tally := 0 })
  else s.updMix c fun m => { m with tally := 0 }

/-- The end of a window (07 R131). -/
def takeWindowEnd (s : State) : State :=
  { (every 12).foldl (fun t c => endWindowFor c t) s with window := 0 }

/-- The window's end is due: its 4000 frames have been computed. -/
def windowDue (s : State) : Bool := decide (4000 ≤ s.window)

/-- MIX_WINDOW_END (07 R131). -/
def execMixWindowEnd (s : State) : Host.Outcome State Fault Refusal :=
  .next <| if isRunning s && windowDue s then takeWindowEnd s else s

/-- AUDIO_FRAME (07 R120, 06 R105, R118, 12 R207): during start-up presence is counted and no sample computed; running, presence, decisions,
samples and mix. A window end still due is taken first, so that no window is longer than 4000 frames (log 14). -/
def execAudioFrame (codes : Table Half 16) (s : State) : Host.Outcome State Fault Refusal :=
  .next <|
    match s.phase with
    | .held => s
    | .startUp => sendOutputs { s with presence := hearAll codes s.presence }
    | .running => mixFrame codes (takePresence codes (sendOutputs (if windowDue s then takeWindowEnd s else s)))

end Sys2Proof.Machine
end

