-- ==== Sys2Proof/Machine/Emergency.lean ====
section
/-! DEFINITION. Emergency operation (10): raising, the players it allocates, a clip sealed during it, clearing, and the evacuation
input. -/

namespace Sys2Proof.Machine

/-! ## Emergency players (10 R177) -/

/-- A language tag of 0 marks an unused entry (10 R174). -/
def noLang : Lang := ⟨0, 0⟩

/-- Tags in order, unused entries and repeated tags passed over (10 R174). -/
def distinctTags : List Lang → List Lang → List Lang
  | [], seen => seen
  | l :: rest, seen => distinctTags rest (if l = noLang ∨ l ∈ seen then seen else seen ++ [l])

/-- The emergency language list (10 R174). -/
def languageList (s : State) : List Lang := distinctTags s.emergency.languages.cells []

/-- A VALID clip of class EMERGENCY in a language (10 R177). -/
def speaks (l : Lang) (c : Clip) : Bool := c.state == .valid && c.cls == .emergency && c.language == l

/-- The VALID EMERGENCY clip of a language with the lowest identifier (10 R177). -/
def languageClip (s : State) (l : Lang) : Option Nat := ((s.directory.filter (speaks l)).map (·.id)).min?

/-- The lowest-numbered IDLE player among 1..5 (10 R177). -/
def idleLanguagePlayer (s : State) : Option PlayerNo :=
  (every 6).find? fun p => decide (1 ≤ p.val) && !isBusy (s.player p)

/-- The language player map written (10 R174). -/
def setServes (p : PlayerNo) (v : Option Lang) (s : State) : State :=
  { s with emergency := { s.emergency with serves := s.emergency.serves.set p v } }

/-- A player made the player of a language (10 R177). -/
def servePlayer (p : PlayerNo) (l : Lang) (clip : Nat) (s : State) : State :=
  setServes p (some l) (allocate p clip .emergency 0 [] s)

/-- Player 0 takes the default emergency clip when it is VALID (10 R177 step 1). -/
def serveDefault (s : State) : State :=
  match s.emergency.defaultClip with
  | some clip => if clipIsValid s clip then allocate 0 clip .emergency 0 [] s else s
  | none => s

/-- One tag of the language list (10 R177 step 2). -/
def serveLanguage (l : Lang) (s : State) : State :=
  match languageClip s l, idleLanguagePlayer s with
  | some clip, some p => servePlayer p l clip s
  | _, _ => s

/-- The players a raising allocates (10 R177). -/
def servePlayers (s : State) : State :=
  (languageList s).foldl (fun t l => serveLanguage l t) (serveDefault s)

/-! ## Raising (10 R176) -/

/-- What the raising notes of a player it stops, for PLAYER_PREEMPTED (10 R176 steps 2 and 5). -/
structure Preempted where
  player : PlayerNo
  clip : Nat
  position : Nat
  loops : Nat
  channels : Nat
  deriving DecidableEq, Repr

/-- The announcing players a raising stops, ascending (10 R176 step 2). -/
def preemptedPlayers (s : State) : List Preempted :=
  ((every 6).filter fun p => ownedBy .announce (s.player p)).map fun p =>
    let q := s.player p
    ⟨p, clipOrZero q.clip, q.position, q.loops, q.channels.length⟩

/-- Every player that is not IDLE stopped without an offer (10 R176 step 2). -/
def stopPlayers (s : State) : State :=
  (every 6).foldl (fun t p => if isBusy (t.player p) then clearPlayer p t else t) s

/-- PLAYER_PREEMPTED (11 R191). -/
def reportPreempted (x : Preempted) (s : State) : State :=
  queueNotice .playerPreempted (.player x.player)
    (detail x.clip (x.loops % 16 + 16 * x.channels) (x.position / 32) (x.position / 32 / 256)) s

/-- The default clip being played, 0 for none (10 R175). -/
def defaultPlaying (s : State) : Nat :=
  if ownedBy .emergency (s.player 0) then clipOrZero (s.player 0).clip else 0

/-- The number of language players (10 R175). -/
def languagePlayers (s : State) : Nat := (s.emergency.serves.cells.filter (·.isSome)).length

/-- The channels in a state. -/
def countChannels (s : State) (st : ChannelState) : Nat := (s.channels.cells.filter (·.state == st)).length

/-- EMERGENCY_RAISED (10 R176 step 5). -/
def reportRaised (cause : RaiseCause) (s : State) : State :=
  queueNotice .emergencyRaised .none
    (detail (raiseCode cause) (defaultPlaying s) (languagePlayers s) (countChannels s .emergency)) s

/-- The state RAISED with its cause and time (10 R176 step 1). -/
def setRaised (v : Option Raised) (s : State) : State := { s with emergency := { s.emergency with raised := v } }

/-- Steps 1 to 4 of 10 R176. -/
def raiseChannels (cause : RaiseCause) (s : State) : State :=
  decideAll (servePlayers (stopPlayers (setRaised (some ⟨cause, s.siteTime⟩) s)))

/-- Emergency raised (10 R176). -/
def raise (cause : RaiseCause) (s : State) : State :=
  (preemptedPlayers s).foldl (fun t x => reportPreempted x t) (reportRaised cause (raiseChannels cause s))

/-- Emergency raised by the input when it is CLEAR (10 R175, R183). -/
def raiseByInput (s : State) : State :=
  if s.emergency.input && !isRaised s then raise .input s else s

/-- The data of a Raise Emergency response (10 R175). -/
def raisedData (s : State) : Data :=
  .raised (isRaised s) (s.emergency.raised.map (·.cause)) (s.emergency.raised.map (·.time)) s.emergency.input
    (defaultPlaying s) (languagePlayers s) (countChannels s .emergency)

/-- RAISE_EMERGENCY (10 R175). A request that finds emergency raised sets C alone, and Z is not judged (log 57). -/
def execRaiseEmergency (q : Req) (s : State) : Host.Outcome State Fault Refusal :=
  .next <| serve .raiseEmergency q (fun s =>
    if isRaised s then done s ⟨.ok, { noCond with c := true }, raisedData s⟩
    else
      let t := raise .request s
      done t ⟨.ok, { noCond with z := defaultPlaying t == 0 && languagePlayers t == 0 }, raisedData t⟩) s

/-! ## A clip sealed during emergency (10 R179) -/

/-- Every EMERGENCY channel that meets a test leaves the player it carries for player p, ascending (10 R179). -/
def moveChannels (p : PlayerNo) (test : State → ChanNo → Bool) (s : State) : State :=
  ((every 12).filter fun c => (s.channel c).state == .emergency && test s c).foldl
    (fun t c => assignTo c (some p) (unassignEmergency c t)) s

/-- The channel carries no emergency player. -/
def carriesNone (s : State) (c : ChanNo) : Bool := (s.emergency.assigned.get c).isNone

/-- The sealed clip speaks a listed language that no player serves, and is the lowest of that language (10 R179). -/
def newLanguage (s : State) (clip : Clip) : Bool :=
  clip.cls == .emergency && (languageList s).contains clip.language
    && s.emergency.serves.cells.all (· != some clip.language) && languageClip s clip.language == some clip.id

/-- A clip sealed while emergency is raised (10 R179). -/
def emergencySeal (clip : Clip) (s : State) : State :=
  if isRaised s then
    if s.emergency.defaultClip = some clip.id ∧ isBusy (s.player 0) = false then
      moveChannels 0 carriesNone (allocate 0 clip.id .emergency 0 [] s)
    else if newLanguage s clip then
      match idleLanguagePlayer s with
      | some p =>
        moveChannels p (fun s c => (s.channel c).config.language == clip.language) (servePlayer p clip.language clip.id s)
      | none => s
    else s
  else s

/-! ## Clearing (10 R181, R182) -/

/-- Whole seconds raised: site time minus raised time modulo 2^32 (10 R182). -/
def secondsRaised (s : State) (r : Raised) : BitVec 32 := s.siteTime - r.time

/-- EMERGENCY_CLEARED (10 R182 step 2, 11 R191): the seconds in the low 31 bits, saturating, the cause in the top bit. -/
def reportCleared (r : Raised) (s : State) : State :=
  let n := min (secondsRaised s r).toNat 2147483647 + 2147483648 * raiseCode r.cause
  queueNotice .emergencyCleared .none (detail n (n / 256) (n / 65536) (n / 16777216)) s

/-- Every emergency player made IDLE, the language player map and every assignment none (10 R182 step 3). -/
def freePlayers (s : State) : State :=
  let s1 := (every 6).foldl (fun t p => if ownedBy .emergency (t.player p) then clearPlayer p t else t) s
  { s1 with emergency := { s1.emergency with serves := Table.fill none, assigned := Table.fill none } }

/-- Emergency cleared (10 R182). -/
def clear (r : Raised) (s : State) : State :=
  decideAll (freePlayers (reportCleared r (setRaised none s)))

/-- CLEAR_EMERGENCY (10 R181). The counts are of the twelve channels as they stand after the clearing (log 35). In CLEAR the response carries
no data (log 58). -/
def execClearEmergency (q : Req) (s : State) : Host.Outcome State Fault Refusal :=
  .next <| serve .clearEmergency q (fun s =>
    match s.emergency.raised with
    | none => done s ⟨.ok, { noCond with c := true }, .none⟩
    | some r =>
      if s.emergency.input then done s (refuse .conflict (.stillActive r.cause true))
      else
        let t := clear r s
        done t (ok (.cleared (countChannels t .live) (countChannels t .hold) (countChannels t .off) (secondsRaised s r)))) s

/-- EVACUATION_INPUT_CHANGE (10 R174, R175, 12 R207): the filtered level as the filter takes it. A level that turns active in CLEAR
raises emergency; while start-up runs, raising waits for its end. -/
def execEvacuationInputChange (active : Bool) (s : State) : Host.Outcome State Fault Refusal :=
  .next <|
    let s1 := { s with emergency := { s.emergency with input := active } }
    match s.phase with
    | .held => s
    | .startUp => s1
    | .running => if s.emergency.input then s1 else raiseByInput s1

/-- SERVICE_KEY_CHANGE (08 R155, 11 R202): the level of the service key input, judged by requests when they arrive. -/
def execServiceKeyChange (held : Bool) (s : State) : Host.Outcome State Fault Refusal :=
  .next { s with key := held }

end Sys2Proof.Machine
end

