-- ==== Sys2Proof/Machine/Store.lean ====
section
/-! DEFINITION. The clip store's shared operations (08): protection, block headers, taking blocks, program operations, the directory,
and the erase batch with its suspension. The commands of the store are in StoreWrite.lean and StoreErase.lean. -/

namespace Sys2Proof.Machine

/-! ## Blocks and protection (08 R135, R155) -/

/-- The protection group of a block (08 R135). -/
def groupOfBlock (b : BlockNo) : Fin 16 := ⟨b.val / 16, by omega⟩

/-- The clip class of a block's group (08 R135). -/
def classOf (b : BlockNo) : ClipClass := if b.val < 32 then .emergency else .standard

/-- The block lies in a protected group (08 R155). -/
def isProtected (s : State) (b : BlockNo) : Bool := s.prot.getLsbD (groupOfBlock b).val

/-- A request may erase or program the block: its group is unprotected or the service key is held (08 R155, log 12). -/
def mayWrite (s : State) (b : BlockNo) : Bool := s.key || !isProtected s b

/-- The block is a member of the erase batch (08 R147). -/
def inBatch (s : State) (b : BlockNo) : Bool := s.store.batch.any (·.block == b)

/-- A block of a class that is ERASED and outside the batch (08 R141). -/
def isFree (s : State) (cls : ClipClass) (b : BlockNo) : Bool :=
  b.val != 0 && classOf b == cls && s.blocks.get b == .erased && !inBatch s b

/-- The lowest block that may be taken for a class, or the refusal (08 R141). -/
def takeBlock (s : State) (cls : ClipClass) : Except Answer BlockNo :=
  match (every 256).find? fun b => isFree s cls b && mayWrite s b with
  | some b => .ok b
  | none =>
    if (every 256).any (isFree s cls) then .error (refuse .isProtected)
    else .error (refuse .storeFull (.reason .noBlock none))

/-- Begin Clip, Append Audio, Seal Clip and Delete Clip are refused STORE_BUSY (08 R142 to R146): the store is ERASING or
SUSPENDING, a save is in progress, or a program operation is running. -/
def programBusy (s : State) : Bool :=
  s.store.state == .erasing || s.store.state == .suspending || s.store.state == .programming || s.store.save.isSome

/-! ## Headers (08 R137) -/

/-- Bytes as cells of the array from an address. -/
def cellsAt (a : Nat) : List Byte → List (Nat × Byte)
  | [] => []
  | b :: bs => (a, b) :: cellsAt (a + 1) bs

/-- A 16-bit value high byte first. -/
def highFirst (h : Half) : List Byte := [(h >>> 8).truncate 8, h.truncate 8]

/-! ## The site record's validity (12 R204) -/

/-- The signature of a site record. Its first byte is not 0x00, since the pending mark on byte 0 makes any record invalid (12 R204, log
48); it is free otherwise. -/
def recordSignature : BitVec 32 :=
  if Config.signature.truncate 8 = (0 : Byte) then Config.signature ||| 1 else Config.signature

/-- Bytes of the record before its check. -/
def recordLength : Nat := 2443

/-- A number of n bytes at an offset of block 0. -/
def field (m : List Host.Cell) (off n : Nat) : Nat := ofLe (bytesFrom m off n)

/-- The content of block 0 is a valid record (12 R204). -/
def recordIsValid (m : List Host.Cell) : Bool :=
  field m 4 1 == 1 && field m 0 4 == recordSignature.toNat
    && bytesFrom m recordLength 2 == highFirst (crc16 (bytesFrom m 0 recordLength))

/-- Block 0 after work on it that did not end in a record saved: 12 R204 and R210 leave no valid record there, so where the bytes would
spell one, byte 0 carries the pending mark (log 48). -/
def spoilRecord (m : List Host.Cell) : List Host.Cell :=
  if recordIsValid m then putByte m (addressOf 0 0) 0x00 else m

/-! ## First parts -/

/-- The header bytes written when a block is taken (08 R137). -/
def firstPart (id index : Nat) (l : Lang) (cls : ClipClass) : List Byte :=
  let h : List Byte := [0x4E, 0xA1] ++ le 1 id ++ le 1 index ++ [l.first, l.second, classByte cls]
  h ++ highFirst (crc16 h)

/-- The cells of a taken block's header (08 R137, R141). -/
def takenCells (b : BlockNo) (id index : Nat) (l : Lang) (cls : ClipClass) : List (Nat × Byte) :=
  cellsAt (addressOf b 0) (firstPart id index l cls)

/-- Samples a block holds (08 R135). -/
def blockSamples : Nat := 131056

/-- The sample count of a block, bytes 10..13 (08 R137). -/
def countCells (b : BlockNo) (n : Nat) : List (Nat × Byte) := cellsAt (addressOf b 10) (le 4 n)

/-- The seal check of a block (08 R137). -/
def sealCheck (blocks samples : Nat) : Byte := crc8 (le 1 blocks ++ le 4 samples)

/-- What Seal Clip programs in one block: block count, seal check and marker (08 R137, R144). -/
def sealCells (b : BlockNo) (blocks samples : Nat) : List (Nat × Byte) :=
  cellsAt (addressOf b 9) (le 1 blocks) ++ cellsAt (addressOf b 14) [sealCheck blocks samples, 0x5A]

/-- What Seal Clip programs in a clip's blocks: full blocks first, the last with its sample count (08 R144). -/
def sealAll (blocks total : Nat) : List BlockNo → List (Nat × Byte)
  | [] => []
  | [b] =>
    let last := total - blockSamples * (blocks - 1)
    countCells b last ++ sealCells b blocks last
  | b :: rest => sealCells b blocks blockSamples ++ sealAll blocks total rest

/-- The deleted marker in every block of a clip (08 R145). -/
def deleteCells (bs : List BlockNo) : List (Nat × Byte) := bs.map fun b => (addressOf b 15, 0x00)

/-- The pending mark of every member of the batch (08 R148). -/
def markCells (batch : List BatchEntry) : List (Nat × Byte) := batch.map fun e => (addressOf e.block 0, 0x00)

/-! ## The directory and the block table (08 R139, R140) -/

/-- A record added in ascending identifier. -/
def insertClip (c : Clip) : List Clip → List Clip
  | [] => [c]
  | d :: ds => if c.id < d.id then c :: d :: ds else d :: insertClip c ds

/-- The directory record of an identifier changed. -/
def updClip (id : Nat) (f : Clip → Clip) (s : State) : State :=
  { s with directory := s.directory.map fun c => if c.id = id then f c else c }

/-- A block's state in the table. Block 0 has no entry: its place is never written (log 22). -/
def setBlock (b : BlockNo) (st : BlockState) (s : State) : State :=
  if b.val = 0 then s else { s with blocks := s.blocks.set b st }

/-- The clip whose list holds a block. -/
def clipHolding (s : State) (b : BlockNo) : Option Clip := s.directory.find? fun c => c.blocks.contains b

/-- The identifier of the STALE clip whose list holds a block, or 0 (08 R148). -/
def staleHolder (s : State) (b : BlockNo) : Nat :=
  match clipHolding s b with
  | some c => if c.state = .stale then c.id else 0
  | none => 0

/-- STORE_FAULT (11 R191): cause 0 PROGRAM, 1 ERASE_CHECK. -/
def storeFault (cause clip : Nat) (b : BlockNo) (s : State) : State :=
  queueNotice .storeFault (.block b) (detail cause clip 0 0) s

/-! ## Program operations (08 R136, R146) -/

/-- The state the store takes when a program operation entered from a state ends (08 R146). -/
def afterProgram : StoreState → StoreState
  | .gathering => .erasing
  | st => st

/-- A program operation is accepted (08 R136, R146): the store is PROGRAMMING, and a gathering window stops. While a read in service keeps the
operation from beginning (08 R152) the store shows PROGRAMMING as well (log 60). -/
def startProgram (op : ProgramOp) (s : State) : State :=
  s.updStore fun t => { t with state := .programming, returnTo := afterProgram t.state, op := some op }

/-- The blocks of an operation in which some byte does not read back as intended, ascending (08 R136). -/
def failedBlocks (m : List Host.Cell) (cells : List (Nat × Byte)) : List BlockNo :=
  (every 256).filter fun b => cells.any fun c => inBlock b c.1 && byteAt m c.1 != c.2

/-- The array after a program operation whose bytes came out as the event says (08 R136, log 9). -/
def programmed (m : List Host.Cell) (cells faults : List (Nat × Byte)) : List Host.Cell :=
  failBytes m (programCells m cells) cells faults

/-- A failed block becomes DIRTY and STORE_FAULT is queued (08 R136). -/
def failBlock (clip : Nat) (b : BlockNo) (s : State) : State := storeFault 0 clip b (setBlock b .dirty s)

/-- Every failed block of an operation. -/
def failBlocks (clip : Nat) (bs : List BlockNo) (s : State) : State := bs.foldl (fun t b => failBlock clip b t) s

/-! ## The erase batch (08 R147, R148, R156) -/

/-- A block added to the batch, which stands in ascending order. -/
def insertBatch (e : BatchEntry) : List BatchEntry → List BatchEntry
  | [] => [e]
  | d :: ds => if e.block.val < d.block.val then e :: d :: ds else d :: insertBatch e ds

/-- The lowest block of a batch. -/
def lowestOf (batch : List BatchEntry) : Option BlockNo := batch.head?.map (·.block)

/-- ERASING begins or resumes (08 R148, R150, R151): the pending marks are made when they have not been, else the lowest block of the
batch is erased from the start. -/
def beginErasing (s : State) : State :=
  s.updStore fun t =>
    match t.stage with
    | .erasing => { t with state := .erasing, inHand := lowestOf t.batch }
    | _ => { t with state := .erasing, stage := .marking, inHand := none }

/-- ERASE_DONE (08 R148, 11 R191). -/
def reportErased (t : EraseTally) (s : State) : State :=
  queueNotice .eraseDone (.block t.lowest) (detail t.erased t.dirty t.dropped t.clips) s

/-- The store with no erase in progress: READY, or about to return to READY when a program operation runs. -/
def idleStore (t : Store) : Store :=
  { t with
    state := if t.state = .programming then .programming else .ready,
    returnTo := if t.state = .programming then .ready else t.returnTo,
    stage := .notBegun, inHand := none, tally := emptyTally }

/-- A batch left empty ends (08 R148, R156): the store becomes READY, and ERASE_DONE is queued, except for a record save, whose
outcome is noted instead (08 R158). -/
def endBatch (outcome : SaveOutcome) (s : State) : State :=
  if s.store.batch.isEmpty then
    let s1 := s.updStore idleStore
    match s.store.save with
    | some v => s1.updStore fun t => { t with save := some { v with outcome := some outcome } }
    | none => reportErased s.store.tally s1
  else s

/-- A count added to the tally of the batch. -/
def countErase (f : EraseTally → EraseTally) (s : State) : State := s.updStore fun t => { t with tally := f t.tally }

/-- A block leaves the batch. -/
def leaveBatch (b : BlockNo) (s : State) : State :=
  s.updStore fun t => { t with batch := t.batch.filter (·.block != b) }

/-- An erased block leaves its STALE clip's list, and a list left empty takes the clip out of the directory (08 R140, R148). -/
def leaveClip (b : BlockNo) (s : State) : State :=
  let rest := (s.directory.map fun c =>
    if c.state = .stale then { c with blocks := c.blocks.filter (· != b) } else c).filter fun c =>
    !(c.state == .stale && c.blocks.isEmpty)
  countErase (fun t => { t with clips := t.clips + (s.directory.length - rest.length) }) { s with directory := rest }

/-- The erase of the block in hand stops (08 R149, R156): its bytes stand as the erase left them (log 10), and a block 0 so left holds no
valid record (12 R204). -/
def stopErase (s : State) : State :=
  match s.store.inHand with
  | some b =>
    let m := erasePartly s.free s.mem b
    { s with mem := if b.val = 0 then spoilRecord m else m, free := s.free + 1 }
  | none => s

end Sys2Proof.Machine
end

