-- ==== Sys2Proof/Machine/StoreWrite.lean ====
section
/-! DEFINITION. Writing clips (08 R136, R141 to R145): Begin Clip, Append Audio, Seal Clip and Delete Clip, and the end of a program
operation. -/

namespace Sys2Proof.Machine

/-- An accepted program request waits in EXECUTING for its operation to end (08 R136, 11 R187). -/
def programFor (q : Req) (job : ProgramJob) (cells : List (Nat × Byte)) (s : State) : State × Option Answer :=
  (startProgram { cells := cells, job := job, port := some q.port } s, none)

/-- BEGIN_CLIP (08 R142). -/
def execBeginClip (q : Req) (clip : Nat) (lang : Lang) (cls : Option ClipClass) (s : State) :
    Host.Outcome State Fault Refusal :=
  .next <| serve .beginClip q (fun s =>
    match clipNumber clip, cls with
    | some _, some k =>
      match s.clip clip with
      | some c => done s (refuse .conflict (.clipState (some c.state)))
      | none =>
        if programBusy s then done s (refuse .storeBusy)
        else
          match takeBlock s k with
          | .error a => done s a
          | .ok b => programFor q (.begin clip lang k b) (takenCells b clip 0 lang k) s
    | _, _ => done s (refuse .range)) s

/-- Samples placed in the last block of a clip. -/
def usedInLast (c : Clip) : Nat := c.total - blockSamples * (c.blocks.length - 1)

/-- The codes and, where they fill the block, its sample count (08 R143). -/
def fillCells (b : BlockNo) (used : Nat) (codes : List Byte) : List (Nat × Byte) :=
  cellsAt (addressOf b (16 + used)) codes
    ++ (if codes.isEmpty = false ∧ used + codes.length = blockSamples then countCells b blockSamples else [])

/-- The cells of an append that takes a new block for the codes left over (08 R143). -/
def spillCells (c : Clip) (last new : BlockNo) (codes : List Byte) : List (Nat × Byte) :=
  let room := blockSamples - usedInLast c
  fillCells last (usedInLast c) (codes.take room)
    ++ takenCells new c.id c.blocks.length c.language c.cls ++ cellsAt (addressOf new 16) (codes.drop room)

/-- An Append Audio to a WRITING clip, its current block named (08 R143). -/
def appendTo (q : Req) (c : Clip) (last : BlockNo) (codes : List Byte) (s : State) : State × Option Answer :=
  if usedInLast c + codes.length ≤ blockSamples then
    programFor q (.append c.id codes.length none) (fillCells last (usedInLast c) codes) s
  else if 16 ≤ c.blocks.length then done s (refuse .storeFull (.reason .clipLimit none))
  else
    match takeBlock s c.cls with
    | .error a => done s a
    | .ok new => programFor q (.append c.id codes.length (some new)) (spillCells c last new codes) s

/-- APPEND_AUDIO (08 R143). -/
def execAppendAudio (q : Req) (clip : Nat) (codes : List Byte) (s : State) : Host.Outcome State Fault Refusal :=
  .next <| serve .appendAudio q (fun s =>
    if codes.length = 0 ∨ 192 < codes.length then done s (refuse .badLength)
    else
      match s.clip clip with
      | none => done s (refuse .notFound)
      | some c =>
        match c.state, c.blocks.getLast? with
        | .writing, some last =>
          if programBusy s then done s (refuse .storeBusy)
          else if mayWrite s last then appendTo q c last codes s
          else done s (refuse .isProtected)
        | _, _ => done s (refuse .conflict)) s

/-- SEAL_CLIP (08 R144). The response to a VALID clip carries no data (log 58). -/
def execSealClip (q : Req) (clip : Nat) (s : State) : Host.Outcome State Fault Refusal :=
  .next <| serve .sealClip q (fun s =>
    match s.clip clip with
    | none => done s (refuse .notFound)
    | some c =>
      match c.state with
      | .valid => done s ⟨.ok, { noCond with c := true }, .none⟩
      | .stale => done s (refuse .conflict)
      | .writing =>
        if c.total = 0 then done s (refuse .conflict)
        else if programBusy s then done s (refuse .storeBusy)
        else if c.blocks.all (mayWrite s) then
          programFor q (.seal clip) (sealAll c.blocks.length c.total c.blocks) s
        else done s (refuse .isProtected)) s

/-- The lowest player that plays a clip (08 R145). -/
def playing (s : State) (clip : Nat) : Option PlayerNo :=
  (every 6).find? fun p => isBusy (s.player p) && (s.player p).clip == some clip

/-- An accepted Delete Clip (08 R145): the clip is STALE from here on, so that no player is allocated for it while its markers are
programmed (09 R160, log 45). -/
def withdraw (q : Req) (c : Clip) (s : State) : State × Option Answer :=
  programFor q (.delete c.id) (deleteCells c.blocks) (updClip c.id (fun c => { c with state := .stale }) s)

/-- DELETE_CLIP (08 R145). -/
def execDeleteClip (q : Req) (clip : Nat) (s : State) : Host.Outcome State Fault Refusal :=
  .next <| serve .deleteClip q (fun s =>
    match s.clip clip with
    | none => done s (refuse .notFound)
    | some c =>
      if c.state = .stale then done s ⟨.ok, { noCond with c := true }, .none⟩
      else
        match playing s clip with
        | some p => done s (refuse .inUse (.playedBy p))
        | none =>
          if programBusy s then done s (refuse .storeBusy)
          else if c.blocks.all (mayWrite s) then withdraw q c s
          else done s (refuse .isProtected)) s

/-! ## The end of a program operation (08 R136) -/

/-- The clip a program operation concerns, 0 for the site record (08 R136, 12 R210). -/
def jobClip : ProgramJob → Nat
  | .begin clip _ _ _ => clip
  | .append clip _ _ => clip
  | .seal clip => clip
  | .delete clip => clip
  | .record => 0

/-- Samples left in the last block of a clip. -/
def freeInLast (c : Clip) : Nat := blockSamples - usedInLast c

/-- What the block table and the directory take from an operation that has ended, succeeded or failed (08 R142 to R145). A taken block
becomes WRITTEN here (log 45); a deleted clip is STALE since its request was accepted. -/
def applyJob (good : Bool) (job : ProgramJob) (s : State) : State :=
  match job with
  | .begin clip lang cls b =>
    let c : Clip := { id := clip, language := lang, cls := cls, state := if good then .writing else .stale, blocks := [b],
                      total := 0 }
    { setBlock b .written s with directory := insertClip c s.directory }
  | .append clip n taken =>
    let s1 := updClip clip
      (fun c => { c with
        state := if good then c.state else .stale, total := if good then c.total + n else c.total,
        blocks := c.blocks ++ taken.toList }) s
    match taken with
    | some b => setBlock b .written s1
    | none => s1
  | .seal clip => updClip clip (fun c => { c with state := if good then .valid else .stale }) s
  | .delete _ => s
  | .record =>
    s.updStore fun t =>
      { t with save := t.save.map fun v => { v with outcome := some (if good then .saved else .programFail) } }

/-- The response an operation's end builds (08 R136, R142 to R145). -/
def jobAnswer (good : Bool) (job : ProgramJob) (s : State) : Answer :=
  if good then
    match job with
    | .begin _ _ _ b => ok (.taken b)
    | .append clip _ _ =>
      match s.clip clip with
      | some c => ok (.appended c.total (c.blocks.getLast?.getD 0) (freeInLast c))
      | none => ok .none
    | .seal clip =>
      match s.clip clip with
      | some c => ok (.sealed c.blocks.length c.total)
      | none => ok .none
    | .delete _ => ok .none
    | .record => ok .none
  else refuse .verifyFail

/-- A clip made VALID by a seal is told to the pool, and during emergency to emergency control (08 R144, 09 R172, 10 R179). -/
def tellSealed (good : Bool) (job : ProgramJob) (s : State) : State :=
  match job with
  | .seal clip =>
    match good, s.clip clip with
    | true, some c => emergencySeal c (offer s)
    | _, _ => s
  | _ => s

/-- The response of the request a program operation carried out, when one waits. -/
def answerJob (port : Option PortId) (a : Answer) (s : State) : State :=
  match port with
  | some p => answerPort p a s
  | none => s

/-- The store leaves PROGRAMMING for the state it returns to; from GATHERING the erase begins (08 R146). -/
def leaveProgramming (s : State) : State :=
  let s1 := s.updStore fun t => { t with state := t.returnTo, op := none }
  if s1.store.state = .erasing then beginErasing s1 else s1

/-- The array at the end of an operation: a site record that does not verify is not left valid (12 R210). -/
def settledArray (op : ProgramOp) (m : List Host.Cell) : List Host.Cell :=
  if op.job = .record ∧ verified m op.cells = false then spoilRecord m else m

/-- A program operation ends (08 R136): bytes programmed and verified, failed blocks DIRTY with STORE_FAULT, the store out of
PROGRAMMING, the response built, and a sealed clip told to the pool and emergency control. -/
def endProgram (op : ProgramOp) (faults : List (Nat × Byte)) (s : State) : State :=
  let m := settledArray op (programmed s.mem op.cells faults)
  let good := verified m op.cells
  let s1 := applyJob good op.job { s with mem := m }
  let s2 := leaveProgramming (failBlocks (jobClip op.job) (failedBlocks m op.cells) s1)
  tellSealed good op.job (answerJob op.port (jobAnswer good op.job s2) s2)

/-- PROGRAM_DONE (08 R136): the operation in progress ends. One accepted while a read is in service runs after that read (08 R152). -/
def execProgramDone (faults : List (Nat × Byte)) (s : State) : Host.Outcome State Fault Refusal :=
  .next <|
    match s.store.state, s.store.op with
    | .programming, some op => if s.path.inService.isNone then endProgram op faults s else s
    | _, _ => s

end Sys2Proof.Machine
end

