-- ==== Sys2Proof/Machine/StoreErase.lean ====
section
/-! DEFINITION. Erasing (08 R147 to R151): Erase Block, the gathering window, the pending marks, a block's erase, suspension and
resumption; and the protection map (08 R155, R156). -/

namespace Sys2Proof.Machine

/-! ## The batch -/

/-- A block joins the batch (08 R147): READY creates it and opens the gathering window, GATHERING adds to it. A block already there keeps
the keyed indication of its first acceptance (log 46). -/
def joinBatch (b : BlockNo) (s : State) : State :=
  if s.store.state = .gathering then
    if inBatch s b then s
    else
      s.updStore fun t =>
        { t with
          batch := insertBatch ⟨b, s.key⟩ t.batch
          tally := { t.tally with lowest := if b.val < t.tally.lowest.val then b else t.tally.lowest } }
  else
    s.updStore fun t =>
      { t with
        state := .gathering, batch := [⟨b, s.key⟩], stage := .notBegun, inHand := none, tally := { emptyTally with lowest := b } }

/-- Erase Block meets a store that takes no block: any state but READY and GATHERING, or a record save (08 R147, R158). -/
def eraseBusy (s : State) : Bool :=
  !(s.store.state == .ready || s.store.state == .gathering) || s.store.save.isSome

/-- The identifier of the WRITING or VALID clip whose list holds a block (08 R147 check 3). -/
def liveHolder (s : State) (b : BlockNo) : Option Nat :=
  match clipHolding s b with
  | some c => if c.state = .stale then none else some c.id
  | none => none

/-- ERASE_BLOCK (08 R147). -/
def execEraseBlock (q : Req) (block : Nat) (s : State) : Host.Outcome State Fault Refusal :=
  .next <| serve .eraseBlock q (fun s =>
    match inRange 256 block with
    | none => done s (refuse .range)
    | some b =>
      if b.val = 0 then done s (refuse .range)
      else if eraseBusy s then done s (refuse .storeBusy)
      else
        match liveHolder s b with
        | some id => done s (refuse .clipLive (.clipId id))
        | none =>
          if mayWrite s b then
            let t := joinBatch b s
            done t ⟨.started, { noCond with c := s.store.state == .gathering && inBatch s b }, .batch t.store.batch.length⟩
          else done s (refuse .isProtected)) s

/-- GATHERING_WINDOW_EXPIRY (08 R147): the window runs out and ERASING begins. -/
def execGatheringWindowExpiry (s : State) : Host.Outcome State Fault Refusal :=
  .next <| if s.store.state = .gathering then beginErasing s else s

/-! ## Marks, erases and suspension (08 R148, R149, R151) -/

/-- The store is making the pending marks (08 R148). -/
def isMarking (s : State) : Bool := s.store.state == .erasing && s.store.stage == .marking

/-- A failed mark: STORE_FAULT with the STALE clip whose list holds the block (08 R148). -/
def failMark (b : BlockNo) (s : State) : State := storeFault 0 (staleHolder s b) b s

/-- The erase of the first block begins once the marks are made; a waiting Suspend Store or read is then met (08 R148). -/
def meetWaiters (s : State) : State :=
  if s.store.suspendWaiter.isSome then s.updStore fun t => { t with state := .suspending, target := .held }
  else meetReads s

/-- The array as the marks leave it: once they are judged, the mark of a record save leaves no valid record (12 R204, log 48). -/
def markedArray (t : Store) (m : List Host.Cell) : List Host.Cell := if t.save.isSome then spoilRecord m else m

/-- The marks end (08 R148): every marked block DIRTY, each mark that reads back otherwise than programmed reported, the erase of the
lowest block begun. -/
def endMarks (faults : List (Nat × Byte)) (s : State) : State :=
  let cells := markCells s.store.batch
  let m := programmed s.mem cells faults
  let s1 := s.store.batch.foldl (fun t e => setBlock e.block .dirty t) { s with mem := markedArray s.store m }
  let s2 := (failedBlocks m cells).foldl (fun t b => failMark b t) s1
  meetWaiters (s2.updStore fun t => { t with stage := .erasing, inHand := lowestOf t.batch })

/-- PENDING_MARKS_DONE (08 R148). -/
def execPendingMarksDone (faults : List (Nat × Byte)) (s : State) : Host.Outcome State Fault Refusal :=
  .next <| if isMarking s && s.path.inService.isNone then endMarks faults s else s

/-- The record save's block 0 is erased: the record is programmed as PROGRAMMING from READY (08 R158). -/
def programRecord (v : Save) (s : State) : State :=
  (s.updStore fun t => { t with batch := [], stage := .notBegun, inHand := none }).updStore fun t =>
    { t with
      state := .programming, returnTo := .ready
      op := some { cells := cellsAt (addressOf 0 0) v.image, job := .record, port := none } }

/-- The result of a block's erase in the table and the counts (08 R148 step 1). -/
def judgeErase (good : Bool) (b : BlockNo) (s : State) : State :=
  if good then countErase (fun t => { t with erased := t.erased + 1 }) (setBlock b .erased s)
  else
    countErase (fun t => { t with dirty := t.dirty + 1 }) (storeFault 1 (staleHolder s b) b (setBlock b .dirty s))

/-- The next block of the batch is taken in hand. -/
def nextBlock (s : State) : State := s.updStore fun t => { t with inHand := lowestOf t.batch }

/-- A block's erase ends (08 R148): read back, out of the batch and of its STALE clip's list; the next block follows, or the batch
ends. A record save's block that fails its check keeps the pending mark (12 R210). -/
def endErase (b : BlockNo) (left : List (Nat × Byte)) (s : State) : State :=
  let m := leaveBytes (eraseBytes s.mem b) b left
  let good := blockErased m b
  let s1 := { s with mem := if s.store.save.isSome && !good then putByte m (addressOf b 0) 0x00 else m }
  match s.store.save, good with
  | some v, true => programRecord v s1
  | _, _ => endBatch .eraseFail (nextBlock (leaveClip b (leaveBatch b (judgeErase good b s1))))

/-- BLOCK_ERASE_DONE (08 R148). -/
def execBlockEraseDone (left : List (Nat × Byte)) (s : State) : Host.Outcome State Fault Refusal :=
  .next <|
    match s.store.inHand with
    | some b => if erasesBlock s && s.path.inService.isNone then endErase b left s else s
    | none => s

/-- The response of Suspend Store and the state it carries (08 R149). -/
def suspendAnswer (c : Bool) (s : State) : Answer :=
  ⟨.ok, { noCond with c := c }, .suspended s.store.state s.store.inHand⟩

/-- Suspend Store waits for SUSPENDED_HELD (08 R149). -/
def awaitSuspension (q : Req) (s : State) : State × Option Answer :=
  (s.updStore fun t => { t with suspendWaiter := some q.port }, none)

/-- The suspended state a target names. -/
def suspendedState : SuspendTarget → StoreState
  | .auto => .suspendedAuto
  | .held => .suspendedHeld

/-- SUSPEND_STORE (08 R149). In ERASING it waits until the pending marks have been made, also where a read in service keeps them from
beginning (log 52). -/
def execSuspendStore (q : Req) (s : State) : Host.Outcome State Fault Refusal :=
  .next <| serve .suspendStore q (fun s =>
    let hold := s.updStore fun t => { t with state := .suspendedHeld }
    match s.store.state with
    | .ready | .programming | .suspendedHeld => done s (suspendAnswer true s)
    | .gathering | .suspendedAuto => done hold (suspendAnswer false hold)
    | .erasing =>
      if s.store.stage = .erasing then
        awaitSuspension q (s.updStore fun t => { t with state := .suspending, target := .held })
      else awaitSuspension q s
    | .suspending => awaitSuspension q (s.updStore fun t => { t with target := .held })) s

/-- RESUME_STORE (08 R150). -/
def execResumeStore (q : Req) (s : State) : Host.Outcome State Fault Refusal :=
  .next <| serve .resumeStore q (fun s =>
    let answer := fun (t : State) (c : Bool) => done t ⟨.ok, { noCond with c := c }, .storeState t.store.state⟩
    match s.store.state with
    | .ready | .gathering | .erasing | .programming => answer s true
    | .suspendedHeld =>
      if pathQuiet s then answer (beginErasing s) false
      else answer (s.updStore fun t => { t with state := .suspendedAuto }) false
    | .suspendedAuto => if pathQuiet s then answer (beginErasing s) false else answer s true
    | .suspending => answer (s.updStore fun t => { t with target := .auto }) false) s

/-- SUSPENSION_COMPLETE (08 R149, R151): the erase has stopped, the interrupted block stays in the batch and DIRTY, and a waiting
Suspend Store is answered. -/
def completeSuspension (s : State) : State :=
  let s1 := (stopErase s).updStore fun t => { t with state := suspendedState t.target, suspendWaiter := none }
  match s.store.suspendWaiter with
  | some p => answerPort p (suspendAnswer false s1) s1
  | none => s1

def execSuspensionComplete (s : State) : Host.Outcome State Fault Refusal :=
  .next <| if s.store.state = .suspending then completeSuspension s else s

/-- QUIET_TIMER_EXPIRY (08 R151): the quiet timer has run out and ERASING resumes. -/
def execQuietTimerExpiry (s : State) : Host.Outcome State Fault Refusal :=
  .next <| if quietTimerRuns s then beginErasing s else s

/-! ## The protection map (08 R155, R156) -/

/-- The map with one group's indication, group g at bit g (log 54). -/
def setProtection (g : Fin 16) (on : Bool) (m : BitVec 16) : BitVec 16 :=
  if on then m ||| (1#16 <<< g.val) else m &&& ~~~ (1#16 <<< g.val)

/-- A batch entry that Protect Group drops: of the group, its keyed indication clear (08 R156). -/
def isDropped (g : Fin 16) (e : BatchEntry) : Bool := groupOfBlock e.block == g && !e.keyed

/-- Whether a block's pending mark had been made when the marks are cut into: not while a read in service keeps them from beginning (08
R152), else free (08 R156, R159, log 23). -/
def markWasMade (b : BlockNo) (s : State) : Bool := s.path.inService.isNone && Config.markMade s.free b.val

/-- A dropped entry whose pending mark had been made keeps the mark and is DIRTY; any other keeps its former state (08 R156). -/
def leaveMark (b : BlockNo) (s : State) : State :=
  if isMarking s && markWasMade b s then
    setBlock b .dirty { s with mem := programByte s.mem (addressOf b 0) 0x00 }
  else s

/-- The entries Protect Group drops leave the batch (08 R156). -/
def dropEntries (g : Fin 16) (s : State) : State :=
  let gone := s.store.batch.filter (isDropped g)
  let s1 := gone.foldl (fun t e => leaveMark e.block t) s
  let s2 := if isMarking s && !gone.isEmpty then { s1 with free := s1.free + 1 } else s1
  s2.updStore fun t =>
    { t with
      batch := t.batch.filter fun e => !isDropped g e
      tally := { t.tally with dropped := t.tally.dropped + gone.length } }

/-- The block in hand, dropped: in ERASING its erase stops at once and the next block of the batch follows (08 R156). In SUSPENDING, which
the rule does not name, its erase stops at once too, and the store stays SUSPENDING with no block in hand. In a SUSPENDED state no block is
reported as interrupted any more (log 51). -/
def dropInHand (s : State) : State :=
  match s.store.inHand with
  | none => s
  | some b =>
    if inBatch s b then s
    else
      let s1 := if s.store.state = .erasing ∨ s.store.state = .suspending then stopErase s else s
      s1.updStore fun t => { t with inHand := if t.state = .erasing then lowestOf t.batch else none }

/-- A record save whose block 0 has left the batch ends without the record and leaves no valid one (12 R210, log 48); any other batch leaves
the array alone. -/
def spoilDropped (s : State) : State :=
  if s.store.batch.isEmpty && s.store.save.isSome then { s with mem := spoilRecord s.mem } else s

/-- Protect Group meets the erase batch (08 R156). -/
def dropUnkeyed (g : Fin 16) (s : State) : State :=
  if s.store.batch.any (isDropped g) then endBatch .dropped (spoilDropped (dropInHand (dropEntries g s))) else s

/-- PROTECT_GROUP (08 R155, R156). -/
def execProtectGroup (q : Req) (group : Nat) (s : State) : Host.Outcome State Fault Refusal :=
  .next <| serve .protectGroup q (fun s =>
    match inRange 16 group with
    | none => done s (refuse .range)
    | some g =>
      let map := setProtection g true s.prot
      done (dropUnkeyed g { s with prot := map }) ⟨.ok, { noCond with c := map == s.prot }, .protection map⟩) s

/-- UNPROTECT_GROUP (08 R155). -/
def execUnprotectGroup (q : Req) (group : Nat) (s : State) : Host.Outcome State Fault Refusal :=
  .next <| serve .unprotectGroup q (fun s =>
    match inRange 16 group with
    | none => done s (refuse .range)
    | some g =>
      let map := setProtection g false s.prot
      if s.prot.getLsbD g.val && !s.key then done s (refuse .isProtected)
      else done { s with prot := map } ⟨.ok, { noCond with c := map == s.prot }, .protection map⟩) s

end Sys2Proof.Machine
end

