-- ==== Sys2Proof/Machine/StoreRead.lean ====
section
/-! DEFINITION. Reading the store: the read path's service (08 R152), a player's refill (08 R153, 09 R162), Read Store (08 R154) and
Read Directory (08 R157). -/

namespace Sys2Proof.Machine

/-! ## The read path (08 R152) -/

/-- The states in which a read is served (08 R152). -/
def servesReads : StoreState → Bool
  | .ready | .gathering | .suspendedAuto | .suspendedHeld => true
  | .erasing | .suspending | .programming => false

/-- The positions in turn after the one served last, that one at the end (08 R152). -/
def positionsAfter (q : Fin 7) : List (Fin 7) := (every 7).map fun k => ⟨(q.val + 1 + k.val) % 7, by omega⟩

/-- The next waiting requester in turn (08 R152). -/
def nextWaiting (s : State) : Option (Fin 7) := (positionsAfter s.path.lastServed).find? (readWaits s)

/-- A requester's read is taken into service (08 R152, 09 R162). -/
def serveRead (q : Fin 7) (s : State) : State :=
  let s1 := s.updPath fun r => { r with inService := some q, discard := false, lastServed := q }
  match playerAt q with
  | some p => s1.updPlayer p fun t => { t with read := .inService }
  | none => s1

/-- READ_PATH_SERVE (08 R152). -/
def execReadPathServe (s : State) : Host.Outcome State Fault Refusal :=
  .next <|
    if s.path.inService.isNone && servesReads s.store.state then
      match nextWaiting s with
      | some q => serveRead q s
      | none => s
    else s

/-! ## Refills (08 R153, 09 R162) -/

/-- The address of the code at position p of a clip (08 R153), none beyond its block list. -/
def codeAddress (c : Clip) (p : Nat) : Option Nat :=
  c.blocks[p / blockSamples]?.map fun b => addressOf b (16 + p % blockSamples)

/-- n codes of a clip from a position, reading on into the next block (08 R153). -/
def clipCodes (m : List Host.Cell) (c : Clip) (p : Nat) : Nat → List Byte
  | 0 => []
  | n + 1 => (match codeAddress c p with | some a => byteAt m a | none => 0xFF) :: clipCodes m c (p + 1) n

/-- What the store returns for a player's read (08 R153): 256 codes, or those left to the end of the clip. -/
def refillCodes (s : State) (q : Player) : List Byte :=
  match s.clip (clipOrZero q.clip) with
  | some c => clipCodes s.mem c q.fetch (min 256 (c.total - q.fetch))
  | none => []

/-- The fetch side after n codes (09 R162 step 2). -/
def advanceFetch (total n : Nat) (q : Player) : Player :=
  if q.fetch + n = total then
    if q.fetchLoops = 1 then { q with fetch := 0, fetchLoops := 0, fetchOpen := false }
    else { q with fetch := 0, fetchLoops := q.fetchLoops - 1 }
  else { q with fetch := q.fetch + n }

/-- A refill lands (09 R162 steps 1 to 3). -/
def landRefill (total : Nat) (codes : List Byte) (q : Player) : Player :=
  advanceFetch total codes.length
    { q with buffer := q.buffer ++ codes, read := .idle, state := if q.state = .filling then .playing else q.state }

/-- The read path free again (08 R152). -/
def freePath (s : State) : State := s.updPath fun r => { r with inService := none, discard := false }

/-- A player's read in service is served (09 R162): the codes land, or are discarded when the play they were asked for has ended; the
next read is placed when it is due. -/
def serveRefill (p : PlayerNo) (s : State) : State :=
  let q := s.player p
  let total := clipTotal s (clipOrZero q.clip)
  let land : Player → Player :=
    if s.path.discard then fun q => { q with read := .idle } else landRefill total (refillCodes s q)
  placeRead p (freePath (s.updPlayer p land))

/-- REFILL_LAND (09 R162). -/
def execRefillLand (s : State) : Host.Outcome State Fault Refusal :=
  .next <|
    match s.path.inService.bind playerAt with
    | some p => serveRefill p s
    | none => s

/-! ## Read Store (08 R154) -/

/-- READ_STORE (08 R154): a read at position 6 of the read path. -/
def execReadStore (q : Req) (block : BlockNo) (offset length : Nat) (s : State) : Host.Outcome State Fault Refusal :=
  .next <| serve .readStore q (fun s =>
    if length < 1 ∨ 240 < length ∨ blockBytes < offset + length then done s (refuse .range)
    else
      (meetReads (s.updPath fun r => { r with raw := some { block := block, offset := offset, length := length, port := q.port } }),
        none)) s

/-- The bytes a Read Store returns (08 R154). -/
def rawBytes (m : List Host.Cell) (r : RawRead) : List Byte := bytesFrom m (addressOf r.block r.offset) r.length

/-- READ_STORE_COMPLETE (08 R154): the read in service at position 6 is served and its response built. -/
def execReadStoreComplete (s : State) : Host.Outcome State Fault Refusal :=
  .next <|
    match s.path.raw with
    | some r =>
      if s.path.inService = some 6 then
        answerPort r.port (ok (.bytes (rawBytes s.mem r))) (freePath (s.updPath fun t => { t with raw := none }))
      else s
    | none => s

/-! ## Read Directory (08 R157) -/

/-- The blocks of a class that meet a test. -/
def countBlocks (cls : ClipClass) (f : BlockNo → Bool) : Nat :=
  ((every 256).filter fun b => b.val != 0 && classOf b == cls && f b).length

/-- The counts of one class's groups (08 R157). -/
def blockCounts (s : State) (cls : ClipClass) : BlockCounts :=
  { erased := countBlocks cls fun b => s.blocks.get b == .erased
    written := countBlocks cls fun b => s.blocks.get b == .written
    dirty := countBlocks cls fun b => s.blocks.get b == .dirty
    free := countBlocks cls (isFree s cls) }

/-- The directory records at or above an identifier (08 R157). -/
def recordsFrom (s : State) (start : Nat) : List Clip := s.directory.filter fun c => decide (start ≤ c.id)

/-- READ_DIRECTORY (08 R157). -/
def execReadDirectory (q : Req) (start : Nat) (wide : Bool) (s : State) : Host.Outcome State Fault Refusal :=
  .next <| serve .readDirectory q (fun s =>
    if start < 1 ∨ 96 < start then done s (refuse .range)
    else if wide then
      match s.clip start with
      | some c => done s (ok (.clipDetail c (c.blocks.map s.blocks.get)))
      | none => done s (refuse .notFound)
    else
      let found := recordsFrom s start
      done s ⟨.ok, { noCond with z := found.isEmpty, n := decide (16 < found.length) },
        .directory s.store.state s.store.batch.length s.store.inHand s.prot s.key
          (blockCounts s .emergency) (blockCounts s .standard) s.directory.length (found.take 16)⟩) s

end Sys2Proof.Machine
end

