-- ==== Sys2Proof/Machine/Players.lean ====
section
/-! DEFINITION. The requests that start and stop players (09 R167 to R169). -/

namespace Sys2Proof.Machine

/-- The position of the first channel of a list that is above 11 or named before (09 R167 check 2): of a channel named twice, its second
naming (log 47). -/
def badChannel : List Nat → List Nat → Nat → Option Nat
  | [], _, _ => none
  | c :: rest, seen, i => if 11 < c ∨ c ∈ seen then some i else badChannel rest (c :: seen) (i + 1)

/-- The clip state a NOT_FOUND of Start Announcement carries (09 R167 check 3). -/
def heldState (s : State) (clip : Nat) : Option ClipState := (s.clip clip).map (·.state)

/-- The lowest-numbered player owned by HOLD (09 R168). -/
def lowestHold (s : State) : Option PlayerNo := (every 6).find? fun p => ownedBy .hold (s.player p)

/-- The player an announcement takes, and whether it is taken over (09 R167 check 5, R168). -/
def announcePlayer (s : State) : Option (PlayerNo × Bool) :=
  match lowestIdle s with
  | some p => some (p, false)
  | none => (lowestHold s).map (·, true)

/-- The listed channels in ascending order (09 R168). -/
def listedChannels (cs : List Nat) : List ChanNo := (every 12).filter fun c => cs.contains c.val

/-- A channel that would carry an announcement now (09 R168). -/
def isAudible (s : State) (c : ChanNo) : Bool := (s.channel c).state == .live || (s.channel c).state == .hold

/-- The hold clip lost by a take-over and the channels that lose it (09 R168). -/
def lostHold (s : State) (p : PlayerNo) (taken : Bool) : Option (Nat × List ChanNo) :=
  if taken then some (clipOrZero (s.player p).clip, (s.player p).channels) else none

/-- An accepted Start Announcement on player p (09 R168). -/
def announce (p : PlayerNo) (taken : Bool) (clip loops : Nat) (cs : List ChanNo) (s : State) : State :=
  allocate p clip .announce loops cs (if taken then clearPlayer p s else s)

/-- START_ANNOUNCEMENT (09 R167, R168). A clip or loop count out of range is refused without a position, whatever the list holds (log 47). -/
def execStartAnnouncement (q : Req) (clip loops : Nat) (channels : List Nat) (s : State) : Host.Outcome State Fault Refusal :=
  .next <| serve .startAnnouncement q (fun s =>
    if channels.length = 0 ∨ 12 < channels.length then done s (refuse .badLength)
    else if clipNumber clip = none ∨ loops < 1 ∨ 15 < loops then done s (refuse .range)
    else
      match badChannel channels [] 0 with
      | some i => done s (refuse .range (.position i))
      | none =>
        if clipIsValid s clip = false then done s (refuse .notFound (.clipState (heldState s clip)))
        else if isRaised s then done s (refuse .conflict)
        else
          match announcePlayer s with
          | none => done s (refuse .noPlayer (.owners (s.players.cells.map (·.owner))))
          | some (p, taken) =>
            let cs := listedChannels channels
            let n := (cs.filter (isAudible s)).length
            done (announce p taken clip loops cs s)
              ⟨.ok, { noCond with z := n == 0 }, .announced p (clipTotal s clip) n (lostHold s p taken)⟩) s

/-- The record of a player as Stop Player reports it (09 R169). -/
def stoppedData (q : Player) : Data :=
  .stopped q.state q.owner q.clip q.position q.loops q.underrun q.channels

/-- STOP_PLAYER (09 R169). The player's record is the data of OK; the CONFLICT refusal carries none (log 53). -/
def execStopPlayer (q : Req) (player : Nat) (s : State) : Host.Outcome State Fault Refusal :=
  .next <| serve .stopPlayer q (fun s =>
    match inRange 6 player with
    | none => done s (refuse .range)
    | some p =>
      let t := s.player p
      if isBusy t = false then done s ⟨.ok, { noCond with c := true }, stoppedData t⟩
      else if t.owner = some .announce then done (endPlay p .stopped s) (ok (stoppedData t))
      else done s (refuse .conflict)) s

end Sys2Proof.Machine
end

