-- ==== Sys2Proof/Machine/Ports.lean ====
section
/-! DEFINITION. The ports (11): enabled ports and rights, transfers and admission, and the requests about ports and notices. -/

namespace Sys2Proof.Machine

/-! ## Enabled ports, folding and rights (11 R193, R194) -/

/-- The enabled ports that strap values fix (11 R194). -/
def enabledPorts (t : Straps) : Straps :=
  { t with operations := t.operations || !(t.desk || t.transmitter || t.operations) }

/-- Where a disabled port's rights and notices go (11 R194, R200). -/
inductive Folding where
  | none | deskIntoOperations | operationsIntoDesk
  deriving DecidableEq, Repr

/-- The folding that strap values fix (11 R194). -/
def foldingOf (t : Straps) : Folding :=
  let e := enabledPorts t
  if e.desk && !e.operations then .operationsIntoDesk
  else if e.operations && !e.desk then .deskIntoOperations
  else .none

/-- The folding in the order of 11 R200's list. -/
def foldingCode : Folding → Nat
  | .none => 0 | .deskIntoOperations => 1 | .operationsIntoDesk => 2

/-- The port folded into a port, when one is (11 R194). -/
def foldedInto (f : Folding) (p : PortId) : Option PortId :=
  match f, p with
  | .deskIntoOperations, .operations => some .desk
  | .operationsIntoDesk, .desk => some .operations
  | _, _ => none

/-- The commands of a port's own set (11 R193); the high half of a code names the set, 0x14 being in two. -/
def ownSet (p : PortId) (c : Command) : Bool :=
  let code := (commandCode c).toNat
  match p with
  | .desk => decide (0x10 ≤ code ∧ code < 0x20)
  | .transmitter => decide (0x20 ≤ code ∧ code < 0x30)
  | .operations => decide (0x30 ≤ code) || code == 0x14

/-- The every-port commands (11 R193). -/
def everyPort (c : Command) : Bool := decide ((commandCode c).toNat < 0x10)

/-- A port's effective rights (11 R193, R194). -/
def hasRight (straps : Straps) (p : PortId) (c : Command) : Bool :=
  everyPort c || ownSet p c ||
    match foldedInto (foldingOf straps) p with
    | some f => ownSet f c
    | none => false

/-! ## Admission (11 R186) -/

/-- A response built at admission: no condition, no data (11 R186). -/
def refusal (st : Status) (tag : Byte) : PortState := .ready ⟨st, noCond, tag, .none⟩

/-- Byte k of a frame, 0 beyond its end. -/
def frameByte (bs : List Byte) (k : Nat) : Byte := bs[k]?.getD 0

/-- The parameter bytes of a frame: those between the length byte and the check (11 R191). -/
def frameParams (bs : List Byte) : List Byte := (bs.drop 3).dropLast

/-- Checks 4 and 5 of an admission (11 R186): a known command the port has the right to enters EXECUTING. -/
def admitCommand (straps : Straps) (p : PortId) (bs : List Byte) : PortState :=
  match commandOf (frameByte bs 0) with
  | none => refusal .unknownCommand (frameByte bs 1)
  | some c =>
    if hasRight straps p c then
      .executing { tag := frameByte bs 1, command := c, params := frameParams bs, marker := false, taken := false }
    else refusal .noRights (frameByte bs 1)

/-- The port state after a frame written in IDLE, by the first check it fails (11 R186). -/
def admitFrame (straps : Straps) (p : PortId) (bs : List Byte) : PortState :=
  let n := bs.length
  if n < 4 ∨ 252 < n then refusal .badLength (frameByte bs 1)
  else if crc8 bs.dropLast ≠ frameByte bs (n - 1) then refusal .badCheck (frameByte bs 1)
  else if 248 < (frameByte bs 2).toNat ∨ (frameByte bs 2).toNat ≠ n - 4 then refusal .badLength (frameByte bs 1)
  else admitCommand straps p bs

/-- A frame written at an enabled port (11 R185, R188). -/
def writeFrame (straps : Straps) (p : PortId) (bs : List Byte) (q : Port) : Port :=
  match q.state with
  | .starting => q
  | .idle => { q with state := admitFrame straps p bs }
  | .executing _ | .ready _ => { q with lost := true }

/-- FRAME_WRITE (11 R184 to R186, R188): bytes are those after the transfer code. A disabled port takes no frame, and a port held in
reset or in STARTING leaves no trace of it. -/
def execFrameWrite (p : PortId) (bs : List Byte) (s : State) : Host.Outcome State Fault Refusal :=
  .next <| if (s.port p).enabled then s.updPort p (writeFrame s.straps p bs) else s

/-! ## Reads (11 R184, R188, R189) -/

/-- The bytes of the frame a port's state calls for, check included (11 R189, R191). -/
def frameOf (q : Port) : List Byte :=
  sentFrame q.invert <|
    match q.state with
    | .starting => frameBody .starting 0 0 []
    | .idle => frameBody .noFrame 0 0 []
    | .executing j => frameBody .pending (condByte noCond q.lost) j.tag [flagByte j.marker]
    | .ready r => frameBody r.status (condByte r.cond q.lost) r.tag (dataBytes r.data)

/-- The port after a frame read whole (11 R188, R189). -/
def readWhole (q : Port) : Port :=
  match q.state with
  | .starting | .idle => q
  | .executing j => { q with state := .executing { j with marker := !j.marker } }
  | .ready _ => { q with state := .idle, lost := false }

/-- n bytes of a frame, 0x00 beyond its end (11 R184). -/
def clockOut (frame : List Byte) (n : Nat) : List Byte := frame.take n ++ List.replicate (n - frame.length) 0x00

/-- A read of n bytes at an enabled port (11 R184, R189). -/
def readPort (n : Nat) (q : Port) : Port :=
  let frame := frameOf q
  let sent := clockOut frame n
  if frame.length ≤ n then { readWhole q with sent := sent } else { q with sent := sent }

/-- READ_TRANSFER (11 R184, R189): clocked is the number of bytes clocked after the transfer code. A disabled port returns nothing, nor
does a port held in reset (12 R208). -/
def execReadTransfer (p : PortId) (clocked : Nat) (s : State) : Host.Outcome State Fault Refusal :=
  .next <| if (s.port p).enabled && !isHeld s then s.updPort p (readPort clocked) else s

/-- IGNORED_TRANSFER (11 R184): any other transfer code; the port state does not change. -/
def execIgnoredTransfer (_ : PortId) (_ : Byte) (s : State) : Host.Outcome State Fault Refusal :=
  .next s

/-- The attention line of a port is driven (11 R198): enabled, not STARTING, its attention enable set, and a response or a notice
waiting. -/
def attentionLine (q : Port) : Bool :=
  q.enabled && q.attention &&
    match q.state with
    | .starting => false
    | .ready _ => true
    | .idle | .executing _ => !q.queue.isEmpty

/-! ## Requests about ports and notices (11 R197, R199, R200) -/

/-- IDENTIFY (11 R200). The site code stands in it and no air code, which 05 R92 mentions and 11 R200 does not list (log 43). -/
def execIdentify (q : Req) (s : State) : Host.Outcome State Fault Refusal :=
  .next <| serve .identify q (fun s =>
    done s (ok (.identity s.straps (enabledPorts s.straps) (foldingCode (foldingOf s.straps)) s.siteCode s.recordValid
      s.siteTime))) s

/-- FETCH_NOTICES (11 R197): up to 8 records from the head of the port's own queue, and OVERFLOWED, which is then cleared. -/
def execFetchNotices (q : Req) (s : State) : Host.Outcome State Fault Refusal :=
  .next <| serve .fetchNotices q (fun s =>
    let p := s.port q.port
    let left := p.queue.drop 8
    done (s.updPort q.port fun p => { p with queue := left, overflowed := false })
      ⟨.ok, { noCond with z := p.queue.isEmpty, n := !left.isEmpty }, .notices left.length p.overflowed (p.queue.take 8)⟩) s

/-- The port a number names (11 R199). -/
def portOf : Nat → Option PortId
  | 0 => some .desk
  | 1 => some .transmitter
  | 2 => some .operations
  | _ => none

/-- SET_PORT_OPTIONS (11 R199). -/
def execSetPortOptions (q : Req) (port : Nat) (mask : BitVec 24) (attention invert : Bool) (s : State) :
    Host.Outcome State Fault Refusal :=
  .next <| serve .setPortOptions q (fun s =>
    match portOf port with
    | none => done s (refuse .range)
    | some p =>
      let o := s.port p
      if o.enabled then
        done (s.updPort p fun o => { o with mask := mask, attention := attention, invert := invert })
          ⟨.ok, { noCond with c := o.mask == mask && o.attention == attention && o.invert == invert },
            .options mask attention invert⟩
      else done s (refuse .conflict)) s

end Sys2Proof.Machine
end

