-- ==== Sys2Proof/Machine/Record.lean ====
section
/-! DEFINITION. The site record (12): its arrangement, its content as Save Site Record captures it, its validity, and its loading.
The manual fixes the fields, their widths where it names them, and the check; the arrangement is the model's (log 4):
signature 4 bytes, format version 1, site code 2, twelve channel records of 28, eight charge settings of 2, four budgets of 2, issue
settings (2, 1, 2, 1), three masks of 3, protection map 2, five language tags of 2, default clip 1, 256 enrolment entries of 8, and
the CRC-16, high byte first as in a block header. -/

namespace Sys2Proof.Machine

/-! ## Writing (12 R203, R209) -/

/-- Four mix list places of a channel record, unused ones 0. -/
def mixPlaces (l : List MixSource) : List Byte :=
  (l.flatMap (fun (e : MixSource) => le 1 e.source.val ++ le 2 e.gain) ++ List.replicate 12 0).take 12

/-- The 28 bytes of a channel record (12 R203, 06 R101). -/
def channelImage (f : ChannelConfig) : List Byte :=
  le 1 (modeCode f.mode) ++ langBytes f.language ++ le 1 f.fixedSource ++ le 2 f.primaryGain ++ le 1 f.mixList.length
    ++ mixPlaces f.mixList ++ le 2 f.announceGain ++ le 2 f.duckLevel ++ le 1 (clipOrZero f.holdClip) ++ le 2 f.masterGain
    ++ le 2 f.floorGain

/-- The charge settings (12 R203). -/
def chargeImage (c : ChargeSettings) : List Byte :=
  le 2 c.precharge ++ le 2 c.bulk ++ le 2 c.topoff ++ le 2 c.taper ++ le 2 c.receiverCapacity ++ le 2 c.micCapacity
    ++ le 2 c.lowThreshold ++ le 2 c.serviceLimit

/-- The issue settings (12 R203). -/
def issueImage (c : IssueSettings) : List Byte :=
  le 2 c.leaseDuration ++ le 1 c.latchWindow ++ le 2 c.returnGrace ++ le 1 c.readyThreshold

/-- One enrolment entry (12 R203, R209). -/
def enrolImage (e : UnitEntry) : List Byte :=
  if e.kind = .vacant then List.replicate 8 0
  else le 1 (kindCode e.kind) ++ le 4 e.serial.toNat ++ [e.marks] ++ le 2 e.cycles

/-- The record before its check, with the site code, default clip and languages it will hold (12 R209). Of a mask and of the protection map
bit 0, that of notice kind 1 and of group 0, is the least significant (logs 4 and 54). -/
def recordBody (s : State) (f : SaveForm) : List Byte :=
  le 4 recordSignature.toNat ++ le 1 1 ++ le 2 f.siteCode
    ++ s.channels.cells.flatMap (fun ch => channelImage ch.config)
    ++ chargeImage s.charge ++ s.racks.cells.flatMap (fun a => le 2 a.budget) ++ issueImage s.issue
    ++ le 3 s.desk.mask.toNat ++ le 3 s.transmitter.mask.toNat ++ le 3 s.operations.mask.toNat ++ le 2 s.prot.toNat
    ++ f.languages.cells.flatMap langBytes ++ le 1 f.defaultClip ++ s.fleet.cells.flatMap enrolImage

/-- The record with its check (12 R204). -/
def recordImage (s : State) (f : SaveForm) : List Byte :=
  recordBody s f ++ highFirst (crc16 (recordBody s f))

/-- The loaded values that a save of length 0 writes again (12 R209). -/
def loadedForm (s : State) : SaveForm :=
  { siteCode := s.siteCode, defaultClip := clipOrZero s.emergency.defaultClip, languages := s.emergency.languages }

/-- A save accepted (08 R158, 12 R209): a batch of block 0 alone, and ERASING begins at once. -/
def startSave (f : SaveForm) (s : State) : State :=
  beginErasing <| s.updStore fun t =>
    { t with
      batch := [⟨0, s.key⟩], stage := .notBegun, inHand := none, tally := emptyTally
      save := some { image := recordImage s f, siteCode := f.siteCode, outcome := none } }

/-- The thirteen bytes of a Save Site Record: site code, default clip and five language tags, in the order and widths of 12 R209, a number
least significant byte first (11 R190), a tag first character first (log 15). -/
def sentForm (bs : List Byte) : SaveForm :=
  { siteCode := ofLe (bs.take 2), defaultClip := ofLe ((bs.drop 2).take 1)
    languages := Table.ofFn fun i => ⟨frameByte bs (3 + 2 * i.val), frameByte bs (4 + 2 * i.val)⟩ }

/-- The form that the bytes of a Save Site Record spell, told by their length: none without bytes, else the thirteen-byte form (12 R209). -/
def spelledForm (bs : List Byte) : Option SaveForm := if bs.isEmpty then none else some (sentForm bs)

/-- The row names the request in hand: its operand is the form that the request's bytes spell. Of a length that fits neither form no
bytes are read. -/
def namesForm (q : Req) (form : Option SaveForm) (s : State) : Bool :=
  !formFits .saveSiteRecord q s || form == spelledForm (requestParams (s.port q.port))

/-- SAVE_SITE_RECORD (12 R209). A row whose form is not the one its request's bytes spell is not the request in hand, and changes nothing
(log 2). -/
def execSaveSiteRecord (q : Req) (form : Option SaveForm) (s : State) : Host.Outcome State Fault Refusal :=
  .next <| if namesForm q form s then serve .saveSiteRecord q (fun s =>
    let f := form.getD (loadedForm s)
    if f.siteCode < 1 ∨ 4095 < f.siteCode ∨ 96 < f.defaultClip then done s (refuse .range)
    else if s.store.state ≠ .ready ∨ s.store.save.isSome = true then done s (refuse .storeBusy)
    else if mayWrite s 0 then done (startSave f s) ⟨.started, noCond, .saving f.siteCode⟩
    else done s (refuse .isProtected)) s
  else s

/-- The site code RECORD_SAVED carries: 0 when no record was programmed (12 R210). -/
def savedSiteCode (v : Save) (o : SaveOutcome) : Nat :=
  match o with
  | .saved | .programFail => v.siteCode
  | .eraseFail | .dropped => 0

/-- RECORD_SAVE_DONE (12 R210): the save ends with its notice. -/
def execRecordSaveDone (s : State) : Host.Outcome State Fault Refusal :=
  .next <|
    match s.store.save with
    | some v =>
      match v.outcome with
      | some o =>
        let site := savedSiteCode v o
        queueNotice .recordSaved (.block 0) (detail (outcomeCode o) site (site / 256) 1)
          (s.updStore fun t => { t with save := none })
      | none => s
    | none => s

/-! ## Loading (12 R205, 06 R118, 01 R22, 05 R92) -/

/-- A language tag at an offset. -/
def storedLang (m : List Host.Cell) (off : Nat) : Lang := ⟨byteAt m off, byteAt m (off + 1)⟩

/-- A 16-bit gain at an offset. -/
def storedHalf (m : List Host.Cell) (off : Nat) : Half := BitVec.ofNat 16 (field m off 2)

/-- The offset of a channel's record. -/
def channelOffset (c : ChanNo) : Nat := 7 + 28 * c.val

/-- One of the four mix list places of a channel record. -/
def storedEntry (m : List Host.Cell) (off : Nat) (i : Nat) : MixEntry :=
  ⟨field m (off + 7 + 3 * i) 1, storedHalf m (off + 8 + 3 * i)⟩

/-- A stored channel record as a form. -/
def storedForm (m : List Host.Cell) (off : Nat) : ChannelForm :=
  { mode := modeOf (field m off 1), language := storedLang m (off + 1), fixedSource := field m (off + 3) 1,
    primaryGain := storedHalf m (off + 4),
    mixList := (List.range (min 4 (field m (off + 6) 1))).map (storedEntry m off),
    announceGain := storedHalf m (off + 19), duckLevel := field m (off + 21) 2, holdClip := field m (off + 23) 1,
    masterGain := storedHalf m (off + 24), floorGain := storedHalf m (off + 26) }

/-- Set Channel would refuse the stored record (06 R103, R118). -/
def wouldRefuse (count : Nat) (f : ChannelForm) : Bool :=
  decide (4 < count) ||
    match f.mode with
    | some mode => (formRefusal f mode).isSome
    | none => true

/-- The mode a stored record is loaded with (06 R118). -/
def loadedMode (f : ChannelForm) : ChannelMode :=
  match f.mode with
  | some .fixed => if 15 < f.fixedSource then .disabled else .fixed
  | some mode => mode
  | none => .disabled

/-- A stored channel record as loaded (06 R118). -/
def loadChannel (count : Nat) (f : ChannelForm) : ChannelConfig :=
  formConfig
    { f with
      fixedSource := if 15 < f.fixedSource then 0 else f.fixedSource
      mixList := if wouldRefuse count f then [] else f.mixList }
    (loadedMode f)

/-- The configured fields of a channel from the record (06 R118). -/
def storedChannel (m : List Host.Cell) (c : ChanNo) : ChannelConfig :=
  loadChannel (field m (channelOffset c + 6) 1) (storedForm m (channelOffset c))

/-- The site code of a record (05 R92). -/
def loadSiteCode (n : Nat) : Nat := if n % 4096 = 0 then 1 else n % 4096

/-- The charge settings of a record, in range (12 R205). -/
def storedCharge (m : List Host.Cell) : ChargeSettings :=
  clampCharge
    { precharge := field m 343 2, bulk := field m 345 2, topoff := field m 347 2, taper := field m 349 2,
      receiverCapacity := field m 351 2, micCapacity := field m 353 2, lowThreshold := field m 355 2,
      serviceLimit := field m 357 2 }

/-- The issue settings of a record, in range (12 R205). -/
def storedIssue (m : List Host.Cell) : IssueSettings :=
  clampIssue
    { leaseDuration := field m 367 2, latchWindow := field m 369 1, returnGrace := field m 370 2,
      readyThreshold := field m 372 1 }

/-- One entry of the enrolment list (01 R22). -/
structure StoredUnit where
  kind : Nat
  serial : BitVec 32
  marks : Byte
  cycles : Nat
  deriving DecidableEq, Repr

/-- The offset of a unit's enrolment entry. -/
def enrolOffset (u : UnitNo) : Nat := 395 + 8 * u.val

def storedUnit (m : List Host.Cell) (u : UnitNo) : StoredUnit :=
  { kind := field m (enrolOffset u) 1, serial := BitVec.ofNat 32 (field m (enrolOffset u + 1) 4),
    marks := byteAt m (enrolOffset u + 5), cycles := field m (enrolOffset u + 6) 2 }

/-- A stored kind (01 R22): 1 RECEIVER, 2 GUIDE_MIC, any other VACANT or unknown. -/
def storedKind : Nat → EntryKind
  | 1 => .receiver
  | 2 => .guideMic
  | _ => .vacant

/-- One entry loaded: VACANT when its kind is, when its serial is 0 or when its serial stood in an earlier entry (01 R22). -/
def loadUnit (repeated : Bool) (e : StoredUnit) : UnitEntry :=
  if storedKind e.kind = .vacant ∨ e.serial = 0 ∨ repeated = true then vacantEntry
  else { vacantEntry with kind := storedKind e.kind, serial := e.serial, marks := e.marks, cycles := e.cycles }

/-- A unit's fleet entry from the record (01 R21, R22). -/
def loadedUnit (m : List Host.Cell) (u : UnitNo) : UnitEntry :=
  let e := storedUnit m u
  loadUnit ((every 256).any fun v => decide (v.val < u.val) && (storedUnit m v).serial == e.serial) e

end Sys2Proof.Machine
end

