-- ==== Sys2Proof/Machine/Startup.lean ====
section
/-! DEFINITION. Resets and start-up (12 R206 to R208): the work a reset cuts short (08 R159), the store scan (08 R138, R139), the
record load, and the end of start-up. -/

namespace Sys2Proof.Machine

/-! ## The store scan (08 R138, R139) -/

/-- The class a header byte names (08 R137). -/
def classOfByte (b : Byte) : Option ClipClass :=
  if b = 0x3C then some .standard else if b = 0xC3 then some .emergency else none

/-- Byte k of a block's header. -/
def headerByte (m : List Host.Cell) (b : BlockNo) (k : Nat) : Byte := byteAt m (addressOf b k)

/-- The clip identifier of a header. -/
def headerClip (m : List Host.Cell) (b : BlockNo) : Nat := (headerByte m b 2).toNat

/-- The index of a header. -/
def headerIndex (m : List Host.Cell) (b : BlockNo) : Nat := (headerByte m b 3).toNat

/-- The language of a header. -/
def headerLang (m : List Host.Cell) (b : BlockNo) : Lang := ⟨headerByte m b 4, headerByte m b 5⟩

/-- The block count of a header. -/
def headerCount (m : List Host.Cell) (b : BlockNo) : Nat := (headerByte m b 9).toNat

/-- The sample count of a header. -/
def headerSamples (m : List Host.Cell) (b : BlockNo) : Nat := ofLe (bytesFrom m (addressOf b 10) 4)

/-- The header is valid (08 R138). -/
def headerValid (m : List Host.Cell) (b : BlockNo) : Bool :=
  headerByte m b 0 == 0x4E && headerByte m b 1 == 0xA1
    && bytesFrom m (addressOf b 7) 2 == highFirst (crc16 (bytesFrom m (addressOf b 0) 7))
    && decide (1 ≤ headerClip m b ∧ headerClip m b ≤ 96) && decide (headerIndex m b < 16)
    && classOfByte (headerByte m b 6) == some (classOf b)

/-- A block's state in the scan (08 R138). Block 0 has no entry; its place holds ERASED (log 22). -/
def scanBlock (m : List Host.Cell) (b : BlockNo) : BlockState :=
  if b.val = 0 ∨ blockErased m b = true then .erased else if headerValid m b then .written else .dirty

/-- The WRITTEN blocks that carry an identifier, ascending (08 R139). -/
def blocksOfClip (m : List Host.Cell) (id : Nat) : List BlockNo :=
  (every 256).filter fun b => scanBlock m b == .written && headerClip m b == id

/-- A clip's blocks in ascending index, equal indices in ascending block number (08 R139). -/
def byIndex (m : List Host.Cell) (bs : List BlockNo) : List BlockNo :=
  (List.range 16).flatMap fun i => bs.filter fun b => headerIndex m b == i

/-- A block carries the sealed marker and a correct seal check (08 R139 condition 1). -/
def isSealed (m : List Host.Cell) (b : BlockNo) : Bool :=
  headerByte m b 15 == 0x5A && headerByte m b 14 == crc8 (bytesFrom m (addressOf b 9) 5)

/-- A block carries the count, language and class of the clip's first (08 R139 condition 2). -/
def agrees (m : List Host.Cell) (b first : BlockNo) : Bool :=
  headerCount m b == headerCount m first && headerLang m b == headerLang m first && classOf b == classOf first

/-- Every block but the last is full and the last holds 1..131056 samples (08 R139 condition 4). -/
def samplesAgree (m : List Host.Cell) : List BlockNo → Bool
  | [] => false
  | [b] => decide (1 ≤ headerSamples m b ∧ headerSamples m b ≤ blockSamples)
  | b :: rest => headerSamples m b == blockSamples && samplesAgree m rest

/-- The blocks of one identifier, in index order, make a VALID clip (08 R139). -/
def makesValid (m : List Host.Cell) (bs : List BlockNo) : Bool :=
  match bs with
  | [] => false
  | first :: _ =>
    bs.all (fun b => isSealed m b && agrees m b first) && bs.length == headerCount m first
      && bs.map (headerIndex m) == List.range bs.length && samplesAgree m bs

/-- The total of a VALID clip: full blocks and the last block's count (08 R139). -/
def scanTotal (m : List Host.Cell) (bs : List BlockNo) : Nat := (bs.map (headerSamples m)).sum

/-- The directory record of one identifier after the scan, none when no block carries it (08 R139). -/
def scanClip (m : List Host.Cell) (id : Nat) : Option Clip :=
  match blocksOfClip m id with
  | [] => none
  | low :: rest =>
    let bs := byIndex m (low :: rest)
    let valid := makesValid m bs
    some { id := id, language := headerLang m low, cls := classOf low, state := if valid then .valid else .stale,
           blocks := bs.take 16, total := if valid then scanTotal m bs else 0 }

/-- The directory after the scan, in ascending identifier (08 R139). -/
def scanDirectory (m : List Host.Cell) : List Clip := (List.range 97).filterMap (scanClip m)

/-- The block table after the scan: a WRITTEN block beyond its STALE clip's sixteen becomes DIRTY (08 R138, R139). -/
def scanTable (m : List Host.Cell) (dir : List Clip) (b : BlockNo) : BlockState :=
  if scanBlock m b = .written then (if dir.any (·.blocks.contains b) then .written else .dirty) else scanBlock m b

/-! ## Store work at a reset (08 R159) -/

/-- The bytes of an operation that may have been reached when it is cut short (08 R159, log 10, 11): a seal never leaves a VALID clip, so
its last marker is not reached. -/
def reachedCells (op : ProgramOp) : List (Nat × Byte) :=
  match op.job with
  | .seal _ => op.cells.dropLast
  | _ => op.cells

/-- The cells of an operation that lie in the first header part of a block (08 R137). -/
def firstPartOf (b : BlockNo) (cells : List (Nat × Byte)) : List (Nat × Byte) :=
  cells.filter fun c => decide (addressOf b 0 ≤ c.1 ∧ c.1 < addressOf b 9)

/-- A first header part that was not programmed whole is DIRTY at the scan (08 R159): where the bytes reached would spell another valid
header, its first byte reads as before the operation (log 11). -/
def partialHeader (old : List Host.Cell) (b : BlockNo) (cells : List (Nat × Byte)) (m : List Host.Cell) : List Host.Cell :=
  if headerValid m b && !verified m (firstPartOf b cells) then putByte m (addressOf b 0) (byteAt old (addressOf b 0)) else m

/-- The block an operation takes, when it takes one (08 R141). -/
def takenBy : ProgramJob → Option BlockNo
  | .begin _ _ _ b => some b
  | .append _ _ taken => taken
  | .seal _ | .delete _ | .record => none

/-- The array after an operation cut short (08 R159): some of its bits programmed (log 10), a partial first header part not valid, and a
record not valid (12 R204). -/
def cutProgram (k : Nat) (old : List Host.Cell) (op : ProgramOp) : List Host.Cell :=
  let m := programPartly k old (reachedCells op)
  if op.job = .record then spoilRecord m
  else
    match takenBy op.job with
    | some b => partialHeader old b op.cells m
    | none => m

/-- A program operation has begun: it waits while a read is in service (08 R152). -/
def begunProgram (s : State) : Option ProgramOp :=
  if s.store.state = .programming ∧ s.path.inService.isNone = true then s.store.op else none

/-- The array after marks cut short (08 R159): each mark is made or is not, free by Config.markMade (log 23), so a member is marked or keeps
its former bytes. -/
def cutMarks (s : State) : List Host.Cell :=
  programCells s.mem (markCells (s.store.batch.filter fun e => markWasMade e.block s))

/-- The array as a reset leaves it (08 R159). A record whose program has verified stands, also when RECORD_SAVE_DONE has not come (log 59). -/
def cutShort (s : State) : State :=
  match begunProgram s with
  | some op => { s with mem := cutProgram s.free s.mem op, free := s.free + 1 }
  | none =>
    if isMarking s then { s with mem := cutMarks s, free := s.free + 1 }
    else if erasesBlock s || s.store.state == .suspending then stopErase s
    else s

/-! ## The record load (12 R205, 11 R194, R195) -/

/-- A fresh channel record with its configured fields (06 R118). -/
def freshChannel (f : ChannelConfig) : Channel := { config := f, group := none, state := .off, primary := none, holdPlayer := none }

/-- The configuration from the record, or its defaults (12 R205). -/
def loadConfig (s : State) : State :=
  let m := s.mem
  if recordIsValid m then
    { s with
      recordValid := true, siteCode := loadSiteCode (field m 5 2)
      channels := Table.ofFn fun c => freshChannel (storedChannel m c)
      mix := Table.ofFn fun c => ⟨32768, (storedChannel m c).masterGain, 0⟩
      charge := storedCharge m, issue := storedIssue m
      racks := Table.ofFn fun r => { resetRack with budget := min 8000 (field m (359 + 2 * r.val) 2) }
      prot := BitVec.ofNat 16 (field m 382 2)
      emergency := { resetEmergency with
        languages := Table.ofFn fun i => storedLang m (384 + 2 * i.val), defaultClip := clipNumber (field m 394 1) }
      fleet := Table.ofFn (loadedUnit m) }
  else s

/-- A port's own mask from the record, every kind when it is invalid (11 R195). -/
def storedMask (s : State) (p : PortId) : BitVec 24 :=
  if s.recordValid then
    match p with
    | .desk => BitVec.ofNat 24 (field s.mem 373 3)
    | .transmitter => BitVec.ofNat 24 (field s.mem 376 3)
    | .operations => BitVec.ofNat 24 (field s.mem 379 3)
  else 0xFFFFFF#24

/-- A port's mask after folding: its own, joined by that of the port folded into it (11 R194). -/
def loadedMask (s : State) (p : PortId) : BitVec 24 :=
  match foldedInto (foldingOf s.straps) p with
  | some f => storedMask s p ||| storedMask s f
  | none => storedMask s p

/-- A port at the beginning of start-up (11 R185, R194 to R199). -/
def freshPort (s : State) (p : PortId) (enabled : Bool) : Port :=
  { resetPort with enabled := enabled, mask := loadedMask s p }

/-- Every port at the beginning of start-up. -/
def loadPorts (s : State) : State :=
  let e := enabledPorts s.straps
  { s with
    desk := freshPort s .desk e.desk, transmitter := freshPort s .transmitter e.transmitter
    operations := freshPort s .operations e.operations }

/-! ## Resets (12 R206, R208) -/

/-- Every block at its value after reset; the array, the key input, the free counter and the model's queue stand. -/
def clearBlocks (kind : ResetKind) (straps : Straps) (s : State) : State :=
  { State.reset with pending := s.pending, resetKind := kind, straps := straps, key := s.key, free := s.free, mem := s.mem }

/-- Steps 1 to 3 of start-up (12 R206): straps, store scan, record load. -/
def beginStartUpOf (kind : ResetKind) (straps : Straps) (s : State) : State :=
  let s1 := clearBlocks kind straps s
  let dir := scanDirectory s1.mem
  loadPorts (loadConfig { s1 with directory := dir, blocks := Table.ofFn (scanTable s1.mem dir) })

/-- A reset: store work cut short where it stands (08 R159), every block at its value after reset, and start-up begun (12 R208). -/
def boot (kind : ResetKind) (straps : Straps) (s : State) : State := beginStartUpOf kind straps (cutShort s)

/-- POWER_ON (12 R208): from any state, since a loss of supply at any moment is followed by power-on; also while the reset
line holds the part (log 41). -/
def execPowerOn (straps : Straps) (s : State) : Host.Outcome State Fault Refusal :=
  .next (boot .powerOn straps s)

/-- RESET_LINE_ASSERT (12 R208): work ends, every block takes its value after reset, and the part is held. -/
def execResetLineAssert (s : State) : Host.Outcome State Fault Refusal :=
  .next { boot .resetLine s.straps s with phase := .held }

/-- RESET_LINE_RELEASE (12 R208): the straps are sampled and start-up begins. -/
def execResetLineRelease (straps : Straps) (s : State) : Host.Outcome State Fault Refusal :=
  .next <| if isHeld s then boot .resetLine straps s else s

/-- RESET_PART (11 R201, 12 R208): no response; the straps are not sampled again. -/
def execResetPart (q : Req) (s : State) : Host.Outcome State Fault Refusal :=
  .next <| serve .resetPart q (fun s => (boot .resetPart s.straps s, none)) s

/-! ## The end of start-up (12 R206 steps 4 to 6) -/

/-- Step 4 has ended (12 R206, log 33): every rack's start-up poll answered or missed, and no first identify attempt in progress. -/
def startUpDue (s : State) : Bool :=
  s.phase == .startUp && s.startUp.polled.cells.all id && (every 64).all fun i => !awaitsSerial s i

def resetCode : ResetKind → Nat
  | .powerOn => 0 | .resetLine => 1 | .resetPart => 2

/-- The racks that answered the start-up poll, one bit each (12 R206). -/
def answeredBits (s : State) : Nat :=
  ((every 4).map fun r => if s.startUp.answered.get r then 2 ^ r.val else 0).sum

/-- The units that are IN_SLOT. -/
def unitsInSlots (s : State) : Nat := countUnits s fun e => e.kind != .vacant && e.location == .inSlot

/-- The detail of STARTUP (12 R206). -/
def startUpDetail (s : State) : Detail :=
  detail ((if s.recordValid then 0 else 1) + 2 * resetCode s.resetKind) (answeredBits s) (unitsInSlots s) s.startUp.strangers

/-- An enabled port leaves STARTING for IDLE (11 R185). -/
def openPort (q : Port) : Port :=
  match q.state with
  | .starting => if q.enabled then { q with state := .idle } else q
  | _ => q

/-- Step 6 (12 R206): the part runs, STARTUP is queued and the ports open. -/
def openPorts (s : State) : State :=
  (queueNotice .startup .none (startUpDetail s) { s with phase := .running }).eachPort openPort

/-- STARTUP_END (12 R206 steps 5 and 6, 10 R183): channels decided, ports opened, and emergency raised when the input is active. -/
def execStartupEnd (s : State) : Host.Outcome State Fault Refusal :=
  .next <| if startUpDue s then raiseByInput (openPorts (decideAll s)) else s

end Sys2Proof.Machine
end

