-- ==== Sys2Proof/Machine/Dispatch.lean ====
section
/-! DEFINITION. The dispatch of commands: one arm per constructor of Instr, each one direct call of its meaning. -/

namespace Sys2Proof.Machine

/-- A command's effect on everything but the queue. -/
def exec (i : Instr) (s : State) : Host.Outcome State Fault Refusal :=
  match i with
  | .identify r => Sys2Proof.Machine.execIdentify r s
  | .fetchNotices r => Sys2Proof.Machine.execFetchNotices r s
  | .readUnit r unit => Sys2Proof.Machine.execReadUnit r unit s
  | .selectUnits r q => Sys2Proof.Machine.execSelectUnits r q s
  | .readGroup r group => Sys2Proof.Machine.execReadGroup r group s
  | .readRack r rack => Sys2Proof.Machine.execReadRack r rack s
  | .readChannelPlan r part => Sys2Proof.Machine.execReadChannelPlan r part s
  | .readDirectory r start detail => Sys2Proof.Machine.execReadDirectory r start detail s
  | .issueUnit r group channel => Sys2Proof.Machine.execIssueUnit r group channel s
  | .openGroup r mic channel => Sys2Proof.Machine.execOpenGroup r mic channel s
  | .closeGroup r group => Sys2Proof.Machine.execCloseGroup r group s
  | .moveGroup r group channel => Sys2Proof.Machine.execMoveGroup r group channel s
  | .setUnitMarks r unit clearMask setMask => Sys2Proof.Machine.execSetUnitMarks r unit clearMask setMask s
  | .reportUnits r records => Sys2Proof.Machine.execReportUnits r records s
  | .reportGuideLinks r records => Sys2Proof.Machine.execReportGuideLinks r records s
  | .fetchTuneOrders r => Sys2Proof.Machine.execFetchTuneOrders r s
  | .readTuneMap r page restart => Sys2Proof.Machine.execReadTuneMap r page restart s
  | .enrolUnit r unit kind serial marks cycles => Sys2Proof.Machine.execEnrolUnit r unit kind serial marks cycles s
  | .retireUnit r unit => Sys2Proof.Machine.execRetireUnit r unit s
  | .unenrolUnit r unit => Sys2Proof.Machine.execUnenrolUnit r unit s
  | .setRackBudget r rack budget => Sys2Proof.Machine.execSetRackBudget r rack budget s
  | .setChargeSettings r settings => Sys2Proof.Machine.execSetChargeSettings r settings s
  | .setIssueSettings r settings => Sys2Proof.Machine.execSetIssueSettings r settings s
  | .forceMonitor r rack slot monitors => Sys2Proof.Machine.execForceMonitor r rack slot monitors s
  | .clearSlotFault r rack slot => Sys2Proof.Machine.execClearSlotFault r rack slot s
  | .setChannel r channel form => Sys2Proof.Machine.execSetChannel r channel form s
  | .setTime r time => Sys2Proof.Machine.execSetTime r time s
  | .startAnnouncement r clip loops channels => Sys2Proof.Machine.execStartAnnouncement r clip loops channels s
  | .stopPlayer r player => Sys2Proof.Machine.execStopPlayer r player s
  | .raiseEmergency r => Sys2Proof.Machine.execRaiseEmergency r s
  | .clearEmergency r => Sys2Proof.Machine.execClearEmergency r s
  | .beginClip r clip language cls => Sys2Proof.Machine.execBeginClip r clip language cls s
  | .appendAudio r clip codes => Sys2Proof.Machine.execAppendAudio r clip codes s
  | .sealClip r clip => Sys2Proof.Machine.execSealClip r clip s
  | .deleteClip r clip => Sys2Proof.Machine.execDeleteClip r clip s
  | .eraseBlock r block => Sys2Proof.Machine.execEraseBlock r block s
  | .suspendStore r => Sys2Proof.Machine.execSuspendStore r s
  | .resumeStore r => Sys2Proof.Machine.execResumeStore r s
  | .readStore r block offset length => Sys2Proof.Machine.execReadStore r block offset length s
  | .protectGroup r group => Sys2Proof.Machine.execProtectGroup r group s
  | .unprotectGroup r group => Sys2Proof.Machine.execUnprotectGroup r group s
  | .saveSiteRecord r form => Sys2Proof.Machine.execSaveSiteRecord r form s
  | .setPortOptions r port mask attention invert => Sys2Proof.Machine.execSetPortOptions r port mask attention invert s
  | .resetPart r => Sys2Proof.Machine.execResetPart r s
  | .frameWrite port bytes => Sys2Proof.Machine.execFrameWrite port bytes s
  | .readTransfer port clocked => Sys2Proof.Machine.execReadTransfer port clocked s
  | .ignoredTransfer port code => Sys2Proof.Machine.execIgnoredTransfer port code s
  | .rackPoll => Sys2Proof.Machine.execRackPoll s
  | .rackAnswer rack readings => Sys2Proof.Machine.execRackAnswer rack readings s
  | .missedPoll rack => Sys2Proof.Machine.execMissedPoll rack s
  | .slotReading rack slot reading => Sys2Proof.Machine.execSlotReading rack slot reading s
  | .serialArrived rack slot serial => Sys2Proof.Machine.execSerialArrived rack slot serial s
  | .identifyTimeout rack slot => Sys2Proof.Machine.execIdentifyTimeout rack slot s
  | .latchWindowExpiry rack slot => Sys2Proof.Machine.execLatchWindowExpiry rack slot s
  | .siteClockAdvance => Sys2Proof.Machine.execSiteClockAdvance s
  | .audioFrame codes => Sys2Proof.Machine.execAudioFrame codes s
  | .mixWindowEnd => Sys2Proof.Machine.execMixWindowEnd s
  | .readPathServe => Sys2Proof.Machine.execReadPathServe s
  | .refillLand => Sys2Proof.Machine.execRefillLand s
  | .readStoreComplete => Sys2Proof.Machine.execReadStoreComplete s
  | .programDone faults => Sys2Proof.Machine.execProgramDone faults s
  | .gatheringWindowExpiry => Sys2Proof.Machine.execGatheringWindowExpiry s
  | .pendingMarksDone faults => Sys2Proof.Machine.execPendingMarksDone faults s
  | .blockEraseDone left => Sys2Proof.Machine.execBlockEraseDone left s
  | .suspensionComplete => Sys2Proof.Machine.execSuspensionComplete s
  | .quietTimerExpiry => Sys2Proof.Machine.execQuietTimerExpiry s
  | .recordSaveDone => Sys2Proof.Machine.execRecordSaveDone s
  | .evacuationInputChange active => Sys2Proof.Machine.execEvacuationInputChange active s
  | .serviceKeyChange held => Sys2Proof.Machine.execServiceKeyChange held s
  | .powerOn straps => Sys2Proof.Machine.execPowerOn straps s
  | .resetLineAssert => Sys2Proof.Machine.execResetLineAssert s
  | .resetLineRelease straps => Sys2Proof.Machine.execResetLineRelease straps s
  | .startupEnd => Sys2Proof.Machine.execStartupEnd s

end Sys2Proof.Machine
end

