-- ==== Sys2Proof/Machine/Step.lean ====
section
/-! DEFINITION. One step of the TC-16: the command at the front of the queue is taken whole (95_what_each_step_holds). -/

namespace Sys2Proof.Machine

/-- One step: the front command acts on the state that holds the rest of the queue; on an empty queue the part idles (log 5). -/
def step (s : State) : Host.Outcome State Fault Refusal :=
  match s.pending with
  | [] => .next s
  | i :: rest => exec i { s with pending := rest }

/-- The command a table word spells put at the front of the queue; a word that spells none changes nothing. -/
def State.withFetchWord (s : State) (nbits w : Nat) : State :=
  match decodeTableWord nbits w with
  | some i => { s with pending := i :: s.pending }
  | none => s

end Sys2Proof.Machine
end

