-- ==== Sys2Proof/Safety.lean ====
section
/-! DEFINITION. The terms in which claims are stated: which command and request a row carries, what it is for a request to be in hand and
answered, and the invariants of the machine. -/

namespace Sys2Proof.Machine

/-! ## Requests -/

/-- The command of 11 R193 and the request that a row of the request kind carries, none for a transfer or an event. -/
def requestOf : Instr → Option (Command × Req)
  | .identify r => some (.identify, r)
  | .fetchNotices r => some (.fetchNotices, r)
  | .readUnit r _ => some (.readUnit, r)
  | .selectUnits r _ => some (.selectUnits, r)
  | .readGroup r _ => some (.readGroup, r)
  | .readRack r _ => some (.readRack, r)
  | .readChannelPlan r _ => some (.readChannelPlan, r)
  | .readDirectory r _ _ => some (.readDirectory, r)
  | .issueUnit r _ _ => some (.issueUnit, r)
  | .openGroup r _ _ => some (.openGroup, r)
  | .closeGroup r _ => some (.closeGroup, r)
  | .moveGroup r _ _ => some (.moveGroup, r)
  | .setUnitMarks r _ _ _ => some (.setUnitMarks, r)
  | .reportUnits r _ => some (.reportUnits, r)
  | .reportGuideLinks r _ => some (.reportGuideLinks, r)
  | .fetchTuneOrders r => some (.fetchTuneOrders, r)
  | .readTuneMap r _ _ => some (.readTuneMap, r)
  | .enrolUnit r _ _ _ _ _ => some (.enrolUnit, r)
  | .retireUnit r _ => some (.retireUnit, r)
  | .unenrolUnit r _ => some (.unenrolUnit, r)
  | .setRackBudget r _ _ => some (.setRackBudget, r)
  | .setChargeSettings r _ => some (.setChargeSettings, r)
  | .setIssueSettings r _ => some (.setIssueSettings, r)
  | .forceMonitor r _ _ _ => some (.forceMonitor, r)
  | .clearSlotFault r _ _ => some (.clearSlotFault, r)
  | .setChannel r _ _ => some (.setChannel, r)
  | .setTime r _ => some (.setTime, r)
  | .startAnnouncement r _ _ _ => some (.startAnnouncement, r)
  | .stopPlayer r _ => some (.stopPlayer, r)
  | .raiseEmergency r => some (.raiseEmergency, r)
  | .clearEmergency r => some (.clearEmergency, r)
  | .beginClip r _ _ _ => some (.beginClip, r)
  | .appendAudio r _ _ => some (.appendAudio, r)
  | .sealClip r _ => some (.sealClip, r)
  | .deleteClip r _ => some (.deleteClip, r)
  | .eraseBlock r _ => some (.eraseBlock, r)
  | .suspendStore r => some (.suspendStore, r)
  | .resumeStore r => some (.resumeStore, r)
  | .readStore r _ _ _ => some (.readStore, r)
  | .protectGroup r _ => some (.protectGroup, r)
  | .unprotectGroup r _ => some (.unprotectGroup, r)
  | .saveSiteRecord r _ => some (.saveSiteRecord, r)
  | .setPortOptions r _ _ _ _ => some (.setPortOptions, r)
  | .resetPart r => some (.resetPart, r)
  | .frameWrite _ _ => none
  | .readTransfer _ _ => none
  | .ignoredTransfer _ _ => none
  | .rackPoll => none
  | .rackAnswer _ _ => none
  | .missedPoll _ => none
  | .slotReading _ _ _ => none
  | .serialArrived _ _ _ => none
  | .identifyTimeout _ _ => none
  | .latchWindowExpiry _ _ => none
  | .siteClockAdvance => none
  | .audioFrame _ => none
  | .mixWindowEnd => none
  | .readPathServe => none
  | .refillLand => none
  | .readStoreComplete => none
  | .programDone _ => none
  | .gatheringWindowExpiry => none
  | .pendingMarksDone _ => none
  | .blockEraseDone _ => none
  | .suspensionComplete => none
  | .quietTimerExpiry => none
  | .recordSaveDone => none
  | .evacuationInputChange _ => none
  | .serviceKeyChange _ => none
  | .powerOn _ => none
  | .resetLineAssert => none
  | .resetLineRelease _ => none
  | .startupEnd => none

/-- A request is in hand: its port executes that command, no owner has taken it, and its parameters fit its form. -/
def InHand (cmd : Command) (q : Req) (s : State) : Prop :=
  handedOn cmd (s.port q.port) = true ∧ formFits cmd q s = true

/-- The request in hand at a port before a step is answered after it: the port is RESPONSE_READY with this status, these conditions, the
request's tag and this data. -/
def Answered (q : Req) (st : Status) (cond : Cond) (d : Data) (s t : State) : Prop :=
  ∀ j, (s.port q.port).state = .executing j → (t.port q.port).state = .ready ⟨st, cond, j.tag, d⟩

/-- The request in hand at a port before a step still waits in EXECUTING after it, taken by its owner (11 R187). -/
def StillWaits (q : Req) (s t : State) : Prop :=
  ∀ j, (s.port q.port).state = .executing j → (t.port q.port).state = .executing { j with taken := true }

/-- Nothing but the ports and their notice queues differs. -/
def SameButPorts (s t : State) : Prop :=
  { t with desk := s.desk, transmitter := s.transmitter, operations := s.operations } = s

/-- Only the roster, the racks, the channel plan and what their decisions reach (the pool, the read path, the store's suspension, the mix
engine, emergency control), and the ports, differ: the flash array, the block table, the directory, the protection map, the presence
records, the link table, the settings, the clock and the output samples are the same. -/
def RosterOnly (s t : State) : Prop :=
  SameButPorts
    { s with
      fleet := t.fleet, slots := t.slots, racks := t.racks, ready := t.ready, armed := t.armed, groups := t.groups, tune := t.tune,
      resync := t.resync, channels := t.channels, mix := t.mix, players := t.players, path := t.path, store := t.store,
      emergency := t.emergency } t

/-- The fleet but for one unit is the same. -/
def OtherUnitsSame (u : UnitNo) (s t : State) : Prop := ∀ v, v ≠ u → t.unit v = s.unit v

/-- The configuration as a record load leaves it: the values of a valid record in block 0, at the offsets of log 4, else the defaults (12
R205). -/
def Configured (t : State) : Prop :=
  if recordIsValid t.mem = true then
    t.recordValid = true ∧ t.siteCode = loadSiteCode (field t.mem 5 2) ∧ t.charge = storedCharge t.mem ∧ t.issue = storedIssue t.mem
      ∧ t.prot = BitVec.ofNat 16 (field t.mem 382 2)
      ∧ (∀ c, (t.channel c).config = storedChannel t.mem c)
      ∧ (∀ r, (t.rack r).budget = min 8000 (field t.mem (359 + 2 * r.val) 2))
      ∧ (∀ i, t.emergency.languages.get i = storedLang t.mem (384 + 2 * i.val))
      ∧ t.emergency.defaultClip = clipNumber (field t.mem 394 1) ∧ ∀ u, t.unit u = loadedUnit t.mem u
  else
    t.recordValid = false ∧ t.siteCode = 1 ∧ t.charge = defaultCharge ∧ t.issue = defaultIssue ∧ t.prot = 3
      ∧ (∀ c, (t.channel c).config = defaultChannel) ∧ (∀ r, (t.rack r).budget = 4000)
      ∧ (∀ i, t.emergency.languages.get i = ⟨0, 0⟩) ∧ t.emergency.defaultClip = none ∧ ∀ u, t.unit u = vacantEntry

/-! ## Invariants -/

/-- The flash array is in canonical form. -/
def memoryCanonical (s : State) : Prop := Memory.wf s.mem = true

/-- No rack's grants exceed its budget, and no budget exceeds 8000 mA (03 R49). -/
def budgetsHold (s : State) : Prop := ∀ r, grantedSum (s.rack r) ≤ (s.rack r).budget ∧ (s.rack r).budget ≤ 8000

/-- The tune queue holds at most 64 orders and at most one for a unit (05 R93). -/
def tuneQueueHolds (s : State) : Prop := s.tune.length ≤ 64 ∧ (s.tune.map (·.unit)).Nodup

/-- Every notice queue holds at most 16 records (11 R196). -/
def noticeQueuesHold (s : State) : Prop := ∀ p, (s.port p).queue.length ≤ 16

/-- A unit stands in at most one guide link entry, an entry's quality is at most 100, and 0 where its unit is absent (06 R107). -/
def linksHold (s : State) : Prop :=
  (∀ k u, (s.links.get k).unit = some u → ∀ j, (s.links.get j).unit = some u → j = k)
    ∧ (∀ k, (s.links.get k).quality ≤ 100) ∧ ∀ k, (s.links.get k).unit = none → (s.links.get k).quality = 0

/-- A presence record's run counts stay in their ranges, one of them is 0, a PRESENT source has not been absent for 1600 frames and a LOST
one not present for 320 (06 R105). -/
def presenceHolds (s : State) : Prop :=
  ∀ k, let p := s.presence.get k
    p.absentRun ≤ 1600 ∧ p.presentRun ≤ 320 ∧ (p.absentRun = 0 ∨ p.presentRun = 0)
      ∧ (p.present = true → p.absentRun < 1600) ∧ (p.present = false → p.presentRun < 320)

/-- A sample fits in 16 bits (07 R130). -/
def isSample (y : Int) : Prop := -32768 ≤ y ∧ y ≤ 32767

/-- Every output sample lies in -32768..32767 (07 R130). -/
def samplesHold (s : State) : Prop := ∀ c, isSample (s.outNext.get c) ∧ isSample (s.outNow.get c)

/-- The duck and the live master gain of a channel keep their laws (07 R119, R129, R132): the duck level and the duck are at most 32768;
outside emergency the live master gain lies between the smaller of floor and configured gain and the configured gain; in
EMERGENCY it is 16384. -/
def gainsHold (s : State) : Prop :=
  ∀ c, let f := (s.channel c).config
    f.duckLevel ≤ 32768 ∧ (s.mix.get c).duck ≤ 32768
      ∧ if (s.channel c).state = .emergency then (s.mix.get c).master = 16384
        else min f.floorGain f.masterGain ≤ (s.mix.get c).master ∧ (s.mix.get c).master ≤ f.masterGain

/-- A player's buffer holds at most 512 codes, at most 256 while its read is placed, and its read is IN_SERVICE exactly while the read path
serves its position (09 R160, R162, 08 R152). -/
def buffersHold (s : State) : Prop :=
  ∀ p, (s.player p).buffer.length ≤ 512 ∧ ((s.player p).read ≠ .idle → (s.player p).buffer.length ≤ 256)
    ∧ ((s.player p).read = .inService ↔ s.path.inService = some (pathPosition p))

/-- The charge and issue settings lie in their ranges (02 R47, 04 R65). -/
def settingsHold (s : State) : Prop := clampCharge s.charge = s.charge ∧ clampIssue s.issue = s.issue

/-- The site code lies in 1..4095 (05 R92). -/
def siteCodeHolds (s : State) : Prop := 1 ≤ s.siteCode ∧ s.siteCode ≤ 4095

/-- A channel's hold player is a player owned by HOLD that lists the channel (09 R160). -/
def holdLinked (s : State) : Prop :=
  ∀ c p, (s.channel c).holdPlayer = some p → ownedBy .hold (s.player p) = true ∧ c ∈ (s.player p).channels

/-- The players that serve a language or a channel in emergency are owned by EMERGENCY, and hold and emergency service play endlessly
(09 R166, 10 R174, R178). -/
def emergencyLinked (s : State) : Prop :=
  (∀ p l, s.emergency.serves.get p = some l → ownedBy .emergency (s.player p) = true)
    ∧ (∀ c p, s.emergency.assigned.get c = some p → ownedBy .emergency (s.player p) = true)
    ∧ ∀ p o, (s.player p).owner = some o → o ≠ .announce → (s.player p).loops = 0

/-- While emergency is raised every channel that is not OFF is in EMERGENCY and no player is owned by ANNOUNCE or HOLD; while it is clear no
channel is in EMERGENCY and no player is owned by EMERGENCY (10 R176, R182). -/
def emergencyTakesAll (s : State) : Prop :=
  if isRaised s then
    (∀ c, (s.channel c).state = .off ∨ (s.channel c).state = .emergency)
      ∧ ∀ p, ownedBy .announce (s.player p) = false ∧ ownedBy .hold (s.player p) = false
  else (∀ c, (s.channel c).state ≠ .emergency) ∧ ∀ p, ownedBy .emergency (s.player p) = false

/-- The pool's and emergency control's records agree with each other. -/
def poolHolds (s : State) : Prop := holdLinked s ∧ emergencyLinked s ∧ emergencyTakesAll s

end Sys2Proof.Machine
end

