-- ==== Sys2Proof/Certificates/Slice0/Obligations.lean ====
section
/-! DEFINITION. The statements for the provers. In each statement about a command, the hypotheses speak of the state and the operands alone and
the conclusion says that exec answers a next state and what that state holds. InHand, Answered, StillWaits and SameButPorts are Safety.lean's. -/

open Sys2Proof Sys2Proof.Machine

/-! ## The machine as a whole -/

/-- A step takes the command at the front of the queue and acts on the state that holds the rest; on an empty queue the part idles, which is
the model's choice (log 5). -/
def Obligations.StepTakesFront : Prop :=
  (∀ (s : State) (i : Instr) (rest : List Instr), s.pending = i :: rest → step s = exec i { s with pending := rest })
    ∧ ∀ s : State, s.pending = [] → step s = .next s

/-- The state after reset meets every invariant of the machine. -/
def Obligations.ResetMeetsInvariants : Prop :=
  memoryCanonical State.reset ∧ budgetsHold State.reset ∧ tuneQueueHolds State.reset ∧ noticeQueuesHold State.reset
    ∧ linksHold State.reset ∧ presenceHolds State.reset ∧ samplesHold State.reset ∧ gainsHold State.reset ∧ buffersHold State.reset
    ∧ settingsHold State.reset ∧ siteCodeHolds State.reset ∧ poolHolds State.reset

/-- Every step keeps the flash array in canonical form. -/
def Obligations.MemoryStaysCanonical : Prop :=
  ∀ s t : State, memoryCanonical s → step s = .next t → memoryCanonical t

/-- Every step keeps each rack's granted sum within its budget, and each budget within 8000 mA. -/
def Obligations.GrantsStayWithinBudget : Prop :=
  ∀ s t : State, budgetsHold s → step s = .next t → budgetsHold t

/-- Every step keeps the tune queue at 64 orders or fewer with at most one order for a unit, and each notice queue at 16 records or fewer. -/
def Obligations.QueuesStayBounded : Prop :=
  ∀ s t : State, tuneQueueHolds s ∧ noticeQueuesHold s → step s = .next t → tuneQueueHolds t ∧ noticeQueuesHold t

/-- Every step keeps the charge settings, the issue settings and the site code in their ranges, a unit in at most one guide link entry, and the
link qualities in their range. -/
def Obligations.SettingsStayInRange : Prop :=
  ∀ s t : State, settingsHold s ∧ siteCodeHolds s ∧ linksHold s → step s = .next t →
    settingsHold t ∧ siteCodeHolds t ∧ linksHold t

/-- Every step keeps the presence records lawful and every output sample within 16 bits. -/
def Obligations.SignalsStayLawful : Prop :=
  ∀ s t : State, presenceHolds s ∧ samplesHold s → step s = .next t → presenceHolds t ∧ samplesHold t

/-- Every step keeps the duck and the live master gain of each channel under their laws. -/
def Obligations.GainsKeepTheirLaw : Prop :=
  ∀ s t : State, gainsHold s → step s = .next t → gainsHold t

/-- Every step keeps each player's buffer within 512 codes and its read in agreement with the read path. -/
def Obligations.BuffersStayBounded : Prop :=
  ∀ s t : State, buffersHold s → step s = .next t → buffersHold t

/-- Every step keeps emergency service whole: while emergency is raised no channel is LIVE or in HOLD and no player is owned by ANNOUNCE or
HOLD; while it is clear no channel is in EMERGENCY and no player is owned by EMERGENCY; and hold players and assignments stay linked. -/
def Obligations.EmergencyTakesAll : Prop :=
  ∀ s t : State, poolHolds s → step s = .next t → poolHolds t

/-! ## Requests in general -/

/-- A request whose parameters do not fit its form is answered BAD_LENGTH and changes nothing else; a request row whose request is not in hand
changes nothing, which is the model's choice (log 2). -/
def Obligations.UnfitRequestsChangeNothing : Prop :=
  ∀ (i : Instr) (cmd : Command) (q : Req) (s : State), requestOf i = some (cmd, q) →
    (handedOn cmd (s.port q.port) = true → formFits cmd q s = false → exec i s = .next (answerPort q.port (refuse .badLength) s))
      ∧ (handedOn cmd (s.port q.port) = false → exec i s = .next s)

/-- Identify and the five Read requests, in every form that is accepted (Read Channel Plan parts 0 to 2 and part 3, Read Directory with and
without the detail option), answer OK with the data their rules list and leave everything but their port as it was. That Identify carries no
air code (log 43) and that the data of a FREE group hold the overdue and RELEASING counts (log 49) are the model's choice. -/
def Obligations.ReadRequestsOnlyAnswer : Prop :=
  ∀ (q : Req) (s : State),
    (InHand .identify q s → exec (.identify q) s = .next (answerPort q.port
      ⟨.ok, noCond, .identity s.straps (enabledPorts s.straps) (foldingCode (foldingOf s.straps)) s.siteCode s.recordValid s.siteTime⟩ s))
    ∧ (∀ u, InHand .readUnit q s → exec (.readUnit q u) s = .next (answerPort q.port
      ⟨.ok, ⟨false, (s.unit u).kind == .vacant, false, false⟩,
        .entry (s.unit u) (decide (s.charge.serviceLimit ≤ (s.unit u).cycles))⟩ s))
    ∧ (∀ g : GroupNo, InHand .readGroup q s →
      let members := (List.finRange 256).filter fun u =>
        ((s.unit u).location == .issued || (s.unit u).location == .releasing) && (s.unit u).group == some g
      exec (.readGroup q (g.val + 1)) s = .next (answerPort q.port
        ⟨.ok, ⟨false, (s.group g).state == .free, false, false⟩,
          .group (s.group g) ((s.group g).channel.map fun c => (s.siteCode * 16 + c.val) % 65536)
            (members.filter fun u => (s.unit u).overdue).length
            (members.filter fun u => (s.unit u).location == .releasing).length⟩ s))
    ∧ (∀ r : RackNo, InHand .readRack q s →
      let slots := (List.finRange 16).map fun k => s.slot (slotIx r k)
      exec (.readRack q r.val) s = .next (answerPort q.port
        ⟨.ok, ⟨slots.any fun sl => (sl.last.map (·.clamped)).getD false, slots.all fun sl => sl.occupant == .none, false, false⟩,
          .rack (s.rack r).online (s.rack r).misses (s.rack r).budget (grantedSum (s.rack r)) (slots.map fun sl =>
            ⟨sl.state, sl.pending, sl.occupant, sl.charge, sl.last, sl.granted, sl.timer, sl.timerOn, sl.forced, sl.cause,
              sl.out.latched⟩)⟩ s))
    ∧ (∀ part, part < 3 → InHand .readChannelPlan q s → ∃ records, records.length = 4 ∧
      (∀ k, k < 4 → ∃ c : ChanNo, c.val = 4 * part + k ∧ records[k]? = some (channelReport s c)) ∧
      exec (.readChannelPlan q part) s = .next (answerPort q.port
        ⟨.ok, ⟨false, decide (∀ c : ChanNo, c.val / 4 = part → (s.channel c).state = .off), false, false⟩, .channels records⟩ s))
    ∧ (InHand .readChannelPlan q s → exec (.readChannelPlan q 3) s = .next (answerPort q.port
      ⟨.ok, ⟨false, decide (∀ k, (s.presence.get k).present = false), false, false⟩,
        .plan ((List.finRange 16).map fun k => (s.presence.get k).present) ((List.finRange 8).map s.links.get)
          ((List.finRange 12).map fun c => (s.channel c).state) s.emergency.raised.isSome⟩ s))
    ∧ (∀ start, 1 ≤ start → start ≤ 96 → InHand .readDirectory q s →
      let found := s.directory.filter fun c => decide (start ≤ c.id)
      exec (.readDirectory q start false) s = .next (answerPort q.port
        ⟨.ok, ⟨false, found.isEmpty, decide (16 < found.length), false⟩,
          .directory s.store.state s.store.batch.length s.store.inHand s.prot s.key (blockCounts s .emergency)
            (blockCounts s .standard) s.directory.length (found.take 16)⟩ s)
      ∧ ∀ c, s.clip start = some c → exec (.readDirectory q start true) s = .next (answerPort q.port
          ⟨.ok, noCond, .clipDetail c (c.blocks.map fun b => s.blocks.get b)⟩ s))

/-- Select Units reports how many enrolled units at or above the start meet its location, mark and field tests, and lists the lowest 48 of
them in ascending unit number; it sets N when they are more and Z when there is none, and changes nothing. A field, relation or mark test
outside its values is refused with RANGE. -/
def Obligations.SelectUnitsListsMatches : Prop :=
  ∀ (q : Req) (p : SelectQuery) (s : State), InHand .selectUnits q s →
    (∀ (f : SelectField) (r : Relation) (k : MarkTest), p.field = some f → p.relation = some r → p.markTest = some k →
      ∃ all : List UnitNo, exec (.selectUnits q p) s = .next (answerPort q.port
          ⟨.ok, ⟨false, all.isEmpty, decide (48 < all.length), false⟩, .selected all.length (all.take 48)⟩ s)
        ∧ all.Pairwise (fun u v => u.val < v.val)
        ∧ ∀ u, u ∈ all ↔ ((s.unit u).kind ≠ .vacant ∧ p.start.val ≤ u.val ∧ inFilter p (s.unit u).location = true
            ∧ markHolds k p.mask (s.unit u).marks = true ∧ ∃ x, fieldValue s f (s.unit u) = some x ∧ holds r x p.operand = true))
    ∧ ((p.field = none ∨ p.relation = none ∨ p.markTest = none) →
        exec (.selectUnits q p) s = .next (answerPort q.port (refuse .range) s))

/-- R19: the eight relations compare the field value with the operand, EQ and NE bitwise, HI and LS unsigned, GT, LE, GE and LT in two's
complement, and exactly one of each complement pair holds. -/
def Obligations.RelationsCompare : Prop :=
  ∀ x y : BitVec 32,
    (holds .eq x y = true ↔ x = y) ∧ (holds .hi x y = true ↔ y.toNat < x.toNat)
      ∧ (holds .gt x y = true ↔ y.toInt < x.toInt) ∧ (holds .ge x y = true ↔ y.toInt ≤ x.toInt)
      ∧ holds .ne x y = !holds .eq x y ∧ holds .ls x y = !holds .hi x y ∧ holds .le x y = !holds .gt x y
      ∧ holds .lt x y = !holds .ge x y

/-- Fetch Notices returns the oldest eight records of its own port's queue with the OVERFLOWED flag, removes them, clears the flag, and leaves
the rest of the machine and the other ports alone. -/
def Obligations.FetchNoticesTakesEight : Prop :=
  ∀ (q : Req) (s : State), InHand .fetchNotices q s →
    ∃ t, exec (.fetchNotices q) s = .next t
      ∧ Answered q .ok ⟨false, (s.port q.port).queue.isEmpty, decide (8 < (s.port q.port).queue.length), false⟩
          (.notices ((s.port q.port).queue.length - 8) (s.port q.port).overflowed ((s.port q.port).queue.take 8)) s t
      ∧ (t.port q.port).queue = (s.port q.port).queue.drop 8 ∧ (t.port q.port).overflowed = false
      ∧ (∀ p, p ≠ q.port → t.port p = s.port p) ∧ SameButPorts s t

/-! ## Fleet (01) -/

/-- Enrol Unit fills a VACANT entry with kind, serial, marks and count and changes no other entry: LOOSE when no slot holds its serial; else
IN_SLOT in the lowest slot whose unenrolled occupant has it, with that slot's charge, the slot keeping its grant and place, and a FULL
slot becoming READY, its unit at the tail of the ready queue, exactly when the unit is eligible. Retire Unit sets RETIRED on an enrolled
unit that is neither out nor a group's guide mic, and nothing else of the fleet. -/
def Obligations.EnrolmentWritesEntry : Prop :=
  ∀ (q : Req) (u : UnitNo) (s : State),
    (∀ (kind : UnitKind) (serial : BitVec 32) (marks : Byte) (cycles : Half),
      InHand .enrolUnit q s → serial ≠ 0 → (s.unit u).kind = .vacant →
      (∀ v, (s.unit v).kind ≠ .vacant → (s.unit v).serial ≠ serial) →
      let fresh : UnitEntry := { vacantEntry with kind := entryKind kind, serial := serial, marks := marks, cycles := cycles.toNat }
      ((∀ i, (s.slot i).occupant ≠ .unenrolled serial) →
        ∃ t, exec (.enrolUnit q u (some kind) serial marks cycles) s = .next t
          ∧ t.unit u = fresh
          ∧ OtherUnitsSame u s t ∧ Answered q .ok noCond (.enrolled .loose none) s t ∧ SameButPorts { s with fleet := t.fleet } t)
      ∧ ∀ i, (s.slot i).occupant = .unenrolled serial → (∀ j, j.val < i.val → (s.slot j).occupant ≠ .unenrolled serial) →
          (s.slot i).state ≠ .ready →
        let joins := (s.slot i).state = .full ∧ kind = .receiver ∧ marks.getLsbD 7 = false ∧ cycles.toNat < s.charge.serviceLimit
        ∃ t, exec (.enrolUnit q u (some kind) serial marks cycles) s = .next t
          ∧ t.unit u = { fresh with location := .inSlot, slot := some i, charge := (s.slot i).charge }
          ∧ OtherUnitsSame u s t ∧ (t.slot i).occupant = .enrolled u ∧ (t.slot i).charge = (s.slot i).charge
          ∧ (t.slot i).granted = (s.slot i).granted ∧ (t.slot i).pending = (s.slot i).pending ∧ (∀ j, j ≠ i → t.slot j = s.slot j)
          ∧ (joins → (t.slot i).state = .ready ∧ t.ready = s.ready ++ [u])
          ∧ (¬ joins → (t.slot i).state = (s.slot i).state ∧ t.ready = s.ready)
          ∧ Answered q .ok noCond (.enrolled .inSlot (some i)) s t
          ∧ SameButPorts { s with fleet := t.fleet, slots := t.slots, ready := t.ready, armed := t.armed } t)
    ∧ (InHand .retireUnit q s → (s.unit u).kind ≠ .vacant → (s.unit u).location ≠ .issued →
        (s.unit u).location ≠ .releasing → (s.unit u).assigned = none → (s.unit u).retired = false →
      ∃ t, exec (.retireUnit q u) s = .next t ∧ t.unit u = { s.unit u with retired := true } ∧ OtherUnitsSame u s t
        ∧ Answered q .ok noCond .none s t
        ∧ SameButPorts { s with fleet := t.fleet, slots := t.slots, ready := t.ready, armed := t.armed } t)

/-- R9: Unenrol Unit, of the Operations set alone, refuses a VACANT entry with NOT_FOUND and a unit that is not LOOSE or that a group holds as
its guide mic with CONFLICT, changing nothing; otherwise every field of the entry takes its vacant value, nothing else changes, and no entry
holds its serial any more when no other held it. -/
def Obligations.UnenrolUnitVacatesEntry : Prop :=
  ownSet .operations .unenrolUnit = true ∧ ownSet .desk .unenrolUnit = false ∧ ownSet .transmitter .unenrolUnit = false ∧
    everyPort .unenrolUnit = false ∧
  ∀ (q : Req) (u : UnitNo) (s : State), InHand .unenrolUnit q s →
    let e := s.unit u
    ((e.kind = .vacant → exec (.unenrolUnit q u) s = .next (answerPort q.port (refuse .notFound) s))
    ∧ (e.kind ≠ .vacant → (e.location ≠ .loose ∨ (e.kind = .guideMic ∧ e.assigned.isSome = true)) →
        exec (.unenrolUnit q u) s = .next (answerPort q.port (refuse .conflict) s))
    ∧ (e.kind ≠ .vacant → e.location = .loose → ¬ (e.kind = .guideMic ∧ e.assigned.isSome = true) →
        exec (.unenrolUnit q u) s = .next (answerPort q.port (ok .none) (s.updUnit u fun _ => vacantEntry))
          ∧ ((∀ v, v ≠ u → (s.unit v).kind = .vacant ∨ (s.unit v).serial ≠ e.serial) →
              holderOf (s.updUnit u fun _ => vacantEntry) e.serial = none)))

/-- Set Unit Marks clears and then sets marks, reports old and new, and leaves the unit's other fields and every other unit alone; without a
change of HOLD_BACK nothing else changes. -/
def Obligations.SetUnitMarksWritesMarks : Prop :=
  ∀ (q : Req) (u : UnitNo) (clearMask setMask : Byte) (s : State), InHand .setUnitMarks q s → (s.unit u).kind ≠ .vacant →
    let old := (s.unit u).marks
    let new := (old &&& ~~~clearMask) ||| setMask
    ∃ t, exec (.setUnitMarks q u clearMask setMask) s = .next t ∧ t.unit u = { s.unit u with marks := new }
      ∧ OtherUnitsSame u s t ∧ Answered q .ok ⟨false, new == 0, false, new == old⟩ (.marks old new) s t
      ∧ SameButPorts { s with fleet := t.fleet, slots := t.slots, ready := t.ready, armed := t.armed } t
      ∧ (new.getLsbD 7 = old.getLsbD 7 → SameButPorts { s with fleet := t.fleet } t)

/-- R16: the response of Report Units counts the heard records of enrolled units, the unheard records of enrolled units and the records of
VACANT entries; the three add up to the records, V is set when an applied record was clamped and Z when none was applied. -/
def Obligations.ReportUnitsCountsRecords : Prop :=
  ∀ (q : Req) (rs : List UnitReport) (s : State), InHand .reportUnits q s → 1 ≤ rs.length → rs.length ≤ 16 →
    let enrolled := fun r : UnitReport => (s.unit r.unit).kind != .vacant
    let applied := (rs.filter fun r => enrolled r && r.heard).length
    let unheard := (rs.filter fun r => enrolled r && !r.heard).length
    let skipped := (rs.filter fun r => !enrolled r).length
    let clamped := rs.any fun r => enrolled r && r.heard && (decide (100 < r.signal.toNat)
      || (((s.unit r.unit).location == .issued || (s.unit r.unit).location == .loose) && decide (1000 < r.charge.toNat)))
    ∃ t, exec (.reportUnits q rs) s = .next t
      ∧ Answered q .ok ⟨clamped, applied == 0, false, false⟩ (.reported applied unheard skipped) s t
      ∧ applied + unheard + skipped = rs.length
      ∧ (∀ u, (∀ r ∈ rs, r.unit ≠ u) → t.unit u = s.unit u) ∧ SameButPorts { s with fleet := t.fleet } t

/-! ## Racks and slots (02, 03) -/

/-- A rack poll restates every slot's outputs and changes nothing else; an answer of an ONLINE rack clears its miss count; an OFFLINE rack that
answers is ONLINE, its slots in IDENTIFY or EMPTY by presence and the other racks' slots left alone; a missed poll below the third
raises the count alone, and the third takes the rack OFFLINE with its lists empty and its slots OFFLINE. -/
def Obligations.RackLinkFollowsPolls : Prop :=
  ∀ (r : RackNo) (rds : Table Reading 16) (s : State), s.phase = .running →
    (∃ t, exec .rackPoll s = .next t ∧ (∀ i, t.slot i = { s.slot i with sent := some (s.slot i).out })
      ∧ { t with slots := s.slots } = s)
    ∧ ((s.rack r).online = true → exec (.rackAnswer r rds) s = .next (s.updRack r fun a => { a with misses := 0 }))
    ∧ ((s.rack r).online = false → ∃ t, exec (.rackAnswer r rds) s = .next t ∧ (t.rack r).online = true ∧ (t.rack r).misses = 0
        ∧ (∀ k, (t.slot (slotIx r k)).state = if (rds.get k).present then .identify else .empty)
        ∧ (∀ i, rackOf i ≠ r → t.slot i = s.slot i) ∧ (∀ r', r' ≠ r → t.rack r' = s.rack r')
        ∧ SameButPorts { s with fleet := t.fleet, slots := t.slots, racks := t.racks } t)
    ∧ ((s.rack r).online = true → (s.rack r).misses < 2 →
        exec (.missedPoll r) s = .next (s.updRack r fun a => { a with misses := a.misses + 1 }))
    ∧ ((s.rack r).online = true → 2 ≤ (s.rack r).misses → ∃ t, exec (.missedPoll r) s = .next t ∧ (t.rack r).online = false
        ∧ (t.rack r).grants = [] ∧ (t.rack r).waits = [] ∧ (∀ k, (t.slot (slotIx r k)).state = .offline)
        ∧ (∀ i, rackOf i ≠ r → t.slot i = s.slot i) ∧ (∀ r', r' ≠ r → t.rack r' = s.rack r') ∧ RosterOnly s t)

/-- A reading of an ONLINE rack's slot is kept as its last reading, the current clamped. With no monitor forced or violated, its current counts
into the accumulator and the charge figure in PRECHARGE, BULK and TOPOFF. PRECHARGE at 3300 mV gives its grant back for BULK, its timer
cleared; BULK at 4150 mV or 950 permille enters TOPOFF with its grant reduced; TOPOFF ends at its time limit or by taper after its first
reading, with a charge of 1000, the cycle counted when BULK ran, and the slot READY or FULL by eligibility. Otherwise the phase goes on,
and no other slot or rack changes. A reading with presence clear empties an occupied slot. -/
def Obligations.SlotReadingCounts : Prop :=
  ∀ (r : RackNo) (k : SlotNo) (rd : Reading) (s : State), s.phase = .running → (s.rack r).online = true →
    let i := slotIx r k
    let sl := s.slot i
    let current := clampCurrent rd.current.toInt
    let full := 36 * capacity s sl.occupant
    let a := sl.acc + 10 * current
    let charge := min 999 (sl.charge + a / full)
    let second := if sl.timerOn then sl.timer + 1 else sl.timer
    let quiet := rd.present = true ∧ sl.forced = noMonitors ∧ rd.voltage.toNat ≤ 4250 ∧ 0 ≤ rd.temperature.toInt
      ∧ rd.temperature.toInt ≤ 450 ∧ sl.charge ≤ 999
    let charged := fun (t : State) (n : Nat) => (t.slot i).acc = a % full ∧ (t.slot i).charge = n
      ∧ (∀ u, sl.occupant ≠ .enrolled u → t.unit u = s.unit u) ∧ ∀ u, sl.occupant = .enrolled u → (t.unit u).charge = n
    let alone := fun t : State => (∀ j, j ≠ i → t.slot j = s.slot j) ∧ { t with slots := s.slots, fleet := s.fleet } = s
    let inRack := fun t : State => (∀ j, rackOf j ≠ r → t.slot j = s.slot j) ∧ (∀ r', r' ≠ r → t.rack r' = s.rack r')
    (∃ t, exec (.slotReading r k rd) s = .next t
        ∧ (t.slot i).last = some ⟨rd.voltage.toNat, rd.temperature.toInt, current, decide (rd.current.toInt < 0) || decide (2000 < rd.current.toInt)⟩
        ∧ RosterOnly s t)
    ∧ (quiet → sl.state = .bulk → rd.voltage.toNat < 4150 → charge < 950 →
        ∃ t, exec (.slotReading r k rd) s = .next t ∧ (t.slot i).state = .bulk ∧ (t.slot i).granted = sl.granted
          ∧ charged t charge ∧ alone t)
    ∧ (quiet → sl.state = .bulk → (4150 ≤ rd.voltage.toNat ∨ 950 ≤ charge) → k ∉ (s.rack r).waits →
        ∃ t, exec (.slotReading r k rd) s = .next t ∧ (t.slot i).state = .topoff
          ∧ (t.slot i).granted = sl.granted.map (fun n => min n s.charge.topoff) ∧ (t.slot i).timer = 0 ∧ (t.slot i).timerOn = true
          ∧ (t.slot i).topoffFresh = true ∧ charged t charge ∧ inRack t
          ∧ SameButPorts { s with fleet := t.fleet, slots := t.slots, racks := t.racks } t)
    ∧ (quiet → sl.state = .precharge → rd.voltage.toNat < 3300 → (sl.timerOn = true → second < 1800) →
        ∃ t, exec (.slotReading r k rd) s = .next t ∧ (t.slot i).state = .precharge ∧ (t.slot i).granted = sl.granted
          ∧ (t.slot i).timer = second ∧ charged t charge ∧ alone t)
    ∧ (quiet → sl.state = .precharge → 3300 ≤ rd.voltage.toNat → (sl.timerOn = true → second < 1800) →
        ∃ t, exec (.slotReading r k rd) s = .next t ∧ (t.slot i).timer = 0 ∧ (t.slot i).timerOn = false
          ∧ (((t.slot i).state = .waitBudget ∧ (t.slot i).pending = some .bulk ∧ (t.slot i).granted = none)
              ∨ ((t.slot i).state = .bulk ∧ (t.slot i).granted = some s.charge.bulk ∧ (t.slot i).bulkRan = true))
          ∧ charged t charge ∧ inRack t ∧ SameButPorts { s with fleet := t.fleet, slots := t.slots, racks := t.racks } t)
    ∧ (quiet → sl.state = .topoff → second < 2700 → (sl.topoffFresh = true ∨ s.charge.taper ≤ current) →
        ∃ t, exec (.slotReading r k rd) s = .next t ∧ (t.slot i).state = .topoff ∧ (t.slot i).granted = sl.granted
          ∧ (t.slot i).timer = second ∧ (t.slot i).topoffFresh = false ∧ charged t charge ∧ alone t)
    ∧ (quiet → sl.state = .topoff → (2700 ≤ second ∨ (sl.topoffFresh = false ∧ current < s.charge.taper)) →
        ∃ t, exec (.slotReading r k rd) s = .next t ∧ charged t 1000 ∧ (∀ g ∈ (t.rack r).grants, g.slot ≠ k)
          ∧ (t.slot i).granted = none
          ∧ (∀ u, sl.occupant = .enrolled u →
              t.unit u = { s.unit u with
                charge := 1000, cycles := if sl.bulkRan then min 65535 ((s.unit u).cycles + 1) else (s.unit u).cycles }
              ∧ (eligible t u = true → (t.slot i).state = .ready ∧ t.ready = s.ready ++ [u])
              ∧ (eligible t u = false → (t.slot i).state = .full ∧ t.ready = s.ready))
          ∧ ((∀ u, sl.occupant ≠ .enrolled u) → (t.slot i).state = .full ∧ t.ready = s.ready) ∧ inRack t
          ∧ SameButPorts { s with fleet := t.fleet, slots := t.slots, racks := t.racks, ready := t.ready, armed := t.armed } t)
    ∧ (rd.present = false → sl.state ≠ .empty → sl.state ≠ .offline →
        ∃ t, exec (.slotReading r k rd) s = .next t ∧ (t.slot i).state = .empty ∧ (t.slot i).occupant = .none
          ∧ (t.slot i).granted = none ∧ (t.slot i).forced = noMonitors)

/-- A reading that violates a monitor, by its condition or because the monitor is forced, sends a slot in any of the six monitored states to
FAULT with exactly the violated monitors as its cause: unlatched, no current, its grant and place given back, BATTERY_FAULT set on its
enrolled unit, which leaves the ready queue when the slot was READY. -/
def Obligations.ViolatedMonitorFaults : Prop :=
  ∀ (r : RackNo) (k : SlotNo) (rd : Reading) (s : State), s.phase = .running → (s.rack r).online = true → rd.present = true →
    let i := slotIx r k
    let sl := s.slot i
    let charging := sl.state = .precharge ∨ sl.state = .bulk ∨ sl.state = .topoff
    let precharging := sl.state = .precharge ∨ (sl.state = .waitBudget ∧ sl.pending = some .precharge)
    let cause : Monitors :=
      { voltHigh := sl.forced.voltHigh || decide (4250 < rd.voltage.toNat)
        voltLow := sl.forced.voltLow || decide (precharging ∧ sl.timerOn = true ∧ 1800 ≤ sl.timer + 1)
        tempHigh := sl.forced.tempHigh || decide (450 < rd.temperature.toInt)
        tempLow := sl.forced.tempLow || decide (charging ∧ rd.temperature.toInt < 0) }
    (charging ∨ sl.state = .waitBudget ∨ sl.state = .full ∨ sl.state = .ready) → cause ≠ noMonitors →
    ∃ t, exec (.slotReading r k rd) s = .next t ∧ (t.slot i).state = .fault ∧ (t.slot i).cause = cause
      ∧ (t.slot i).out = ⟨false, 0, .fault⟩ ∧ (t.slot i).granted = none ∧ (t.slot i).pending = none
      ∧ (t.slot i).charge = sl.charge ∧ (t.slot i).acc = sl.acc ∧ (t.slot i).occupant = sl.occupant
      ∧ (∀ u, sl.occupant = .enrolled u → t.unit u = { s.unit u with batteryFault := true } ∧ OtherUnitsSame u s t)
      ∧ ((∀ u, sl.occupant ≠ .enrolled u) → t.fleet = s.fleet)
      ∧ (∀ g ∈ (t.rack r).grants, g.slot ≠ k) ∧ k ∉ (t.rack r).waits ∧ (∀ r', r' ≠ r → t.rack r' = s.rack r')
      ∧ (∀ j, rackOf j ≠ r → t.slot j = s.slot j)
      ∧ (sl.state ≠ .ready → t.ready = s.ready)
      ∧ (∀ u, sl.state = .ready → sl.occupant = .enrolled u → t.ready = s.ready.filter (· ≠ u))
      ∧ SameButPorts { s with fleet := t.fleet, slots := t.slots, racks := t.racks, ready := t.ready } t

/-- A serial that arrives for an identify attempt settles the slot's occupant, estimates its charge from the last voltage and puts it in the
wait list or its first phase; a first or second attempt that runs out is counted and ends; the third leaves an unenrolled occupant
with serial 0. -/
def Obligations.IdentificationSettlesOccupant : Prop :=
  ∀ (r : RackNo) (k : SlotNo) (serial : BitVec 32) (s : State), (s.slot (slotIx r k)).state = .identify →
    (s.slot (slotIx r k)).attempting = true →
    let i := slotIx r k
    let v := ((s.slot i).last.map (·.voltage)).getD 0
    (∃ t, exec (.serialArrived r k serial) s = .next t ∧ (t.slot i).occupant = occupantOf s serial
      ∧ (t.slot i).previous = .none ∧ (t.slot i).attempting = false ∧ (t.slot i).charge = estimate v
      ∧ ((t.slot i).state = .waitBudget ∨ (t.slot i).state = phaseState (firstPhase v))
      ∧ RosterOnly { s with startUp := t.startUp } t)
    ∧ ((s.slot i).attempts < 2 →
        exec (.identifyTimeout r k) s =
          .next (s.updSlot i fun sl => { sl with attempts := sl.attempts + 1, attempting := false }))
    ∧ (2 ≤ (s.slot i).attempts → ∃ t, exec (.identifyTimeout r k) s = .next t ∧ (t.slot i).occupant = .unenrolled 0
        ∧ (t.slot i).attempting = false ∧ (t.slot i).charge = estimate v ∧ RosterOnly { s with startUp := t.startUp } t)

/-- R33: between two of the eight fixed points the estimate is the lower point's charge plus the whole part of the interpolation; below 3300 mV it
is 0, at 4150 mV and above 950, and it never exceeds 950. -/
def Obligations.EstimateInterpolates : Prop :=
  (∀ v, v < 3300 → estimate v = 0) ∧ (∀ v, 4150 ≤ v → estimate v = 950) ∧ (∀ v, estimate v ≤ 950)
    ∧ ∀ x ∈ [((3300, 0), (3500, 50)), ((3500, 50), (3650, 150)), ((3650, 150), (3750, 300)), ((3750, 300), (3850, 500)),
        ((3850, 500), (3950, 700)), ((3950, 700), (4050, 850)), ((4050, 850), (4150, 950))],
      ∀ v, x.1.1 ≤ v → v < x.2.1 → estimate v = x.1.2 + (v - x.1.1) * (x.2.2 - x.1.2) / (x.2.1 - x.1.1)

/-- Force Monitor replaces the forced set of an occupied slot and nothing else; Clear Slot Fault restarts a faulted slot at IDENTIFY with its
occupant as previous occupant, its forced set and cause empty, and clears BATTERY_FAULT of an enrolled occupant. -/
def Obligations.SlotRequestsActOnSlot : Prop :=
  ∀ (q : Req) (r : RackNo) (k : SlotNo) (m : Monitors) (s : State),
    let i := slotIx r k
    (InHand .forceMonitor q s → (s.slot i).state ≠ .empty →
      exec (.forceMonitor q r.val k.val m) s = .next (answerPort q.port
        ⟨.ok, ⟨false, m == noMonitors, false, m == (s.slot i).forced⟩, .none⟩ (s.updSlot i fun sl => { sl with forced := m })))
    ∧ (InHand .clearSlotFault q s → (s.slot i).state = .fault →
      ∃ t, exec (.clearSlotFault q r.val k.val) s = .next t ∧ (t.slot i).state = .identify
        ∧ (t.slot i).previous = (s.slot i).occupant ∧ (t.slot i).occupant = .none ∧ (t.slot i).forced = noMonitors
        ∧ (t.slot i).cause = noMonitors ∧ (t.slot i).out = ⟨true, 0, .charging⟩ ∧ (∀ j, j ≠ i → t.slot j = s.slot j)
        ∧ (∀ u, (s.slot i).occupant = .enrolled u → t.unit u = { s.unit u with batteryFault := false } ∧ OtherUnitsSame u s t)
        ∧ Answered q .ok noCond .none s t ∧ SameButPorts { s with slots := t.slots, fleet := t.fleet } t)

/-- Set Rack Budget replaces one rack's budget, at most 8000 mA, leaves that rack's granted sum within it, and leaves the other racks, their slots
and everything else alone. -/
def Obligations.SetRackBudgetFits : Prop :=
  ∀ (q : Req) (r : RackNo) (budget : Nat) (s : State), InHand .setRackBudget q s →
    ∃ t d, exec (.setRackBudget q r.val budget) s = .next t ∧ (t.rack r).budget = min budget 8000
      ∧ grantedSum (t.rack r) ≤ min budget 8000 ∧ (∀ r', r' ≠ r → t.rack r' = s.rack r')
      ∧ (∀ i, rackOf i ≠ r → t.slot i = s.slot i) ∧ SameButPorts { s with slots := t.slots, racks := t.racks } t
      ∧ Answered q .ok ⟨decide (8000 < budget), min budget 8000 == 0, false, min budget 8000 == (s.rack r).budget⟩ d s t

/-- A revocation takes grants from the tail of the grant list and no more than it must: what is kept is a head of the list that fits the
budget, and keeping one grant more would not fit. -/
def Obligations.RevocationIsShortest : Prop :=
  ∀ (budget : Nat) (gs : List Grant),
    keptGrants budget gs ++ revokedGrants budget gs = gs ∧ sumGrants (keptGrants budget gs) ≤ budget
      ∧ ∀ g rest, revokedGrants budget gs = g :: rest → budget < sumGrants (keptGrants budget gs ++ [g])

/-- An evaluation takes slots from the head of the rack's wait list alone, the rest keeping its order: the grant list gains one grant for each
slot taken, in that order, at the current asked for its pending phase, and the slot stands in that phase with that grant; no other slot
changes. It stops only where the head does not fit: a head that still waits with a pending phase asks for more than the remaining
budget. -/
def Obligations.EvaluationGrantsFromHead : Prop :=
  ∀ (r : RackNo) (s : State),
    let t := evaluate r s
    let wanted := fun k : SlotNo => ((s.slot (slotIx r k)).pending.map (asked s)).getD 0
    (∃ taken, (s.rack r).waits = taken ++ (t.rack r).waits
        ∧ (t.rack r).grants = (s.rack r).grants ++ taken.map (fun k => (⟨k, wanted k⟩ : Grant))
        ∧ (∀ k ∈ taken, ∃ ph, (s.slot (slotIx r k)).pending = some ph ∧ (t.slot (slotIx r k)).state = phaseState ph
            ∧ (t.slot (slotIx r k)).pending = none ∧ (t.slot (slotIx r k)).granted = some (wanted k)
            ∧ (t.slot (slotIx r k)).out = ⟨true, wanted k, .charging⟩)
        ∧ ∀ j, (∀ k ∈ taken, j ≠ slotIx r k) → t.slot j = s.slot j)
      ∧ (grantedSum (s.rack r) ≤ (s.rack r).budget → grantedSum (t.rack r) ≤ (s.rack r).budget)
      ∧ (∀ k rest ph, (t.rack r).waits = k :: rest → (t.slot (slotIx r k)).pending = some ph →
        remaining (t.rack r) < asked t ph)
      ∧ (∀ r', r' ≠ r → t.rack r' = s.rack r') ∧ { t with slots := s.slots, racks := s.racks } = s

/-- Set Charge Settings and Set Issue Settings write every setting as the nearer end of its range, with V for a clamp and C for no change; Set
Issue Settings changes nothing else but the arming indicator. -/
def Obligations.SettingsAreClamped : Prop :=
  ∀ (q : Req) (c : ChargeSettings) (d : IssueSettings) (s : State),
    (InHand .setChargeSettings q s → ∃ t, exec (.setChargeSettings q c) s = .next t ∧ t.charge = clampCharge c
      ∧ Answered q .ok ⟨clampCharge c != c, false, false, clampCharge c == s.charge⟩ .none s t
      ∧ SameButPorts { s with charge := t.charge, slots := t.slots, racks := t.racks, ready := t.ready, armed := t.armed } t)
    ∧ (InHand .setIssueSettings q s → ∃ t, exec (.setIssueSettings q d) s = .next t ∧ t.issue = clampIssue d
      ∧ Answered q .ok ⟨clampIssue d != d, false, false, clampIssue d == s.issue⟩ .none s t
      ∧ SameButPorts { s with issue := t.issue, armed := t.armed } t)

/-! ## Issue, return and leases (04) -/

/-- Issue Unit takes the head of the ready queue: with group 0 to a channel that is LIVE or in HOLD, with a group to that group's channel while it
is OPEN, counting a member. The unit is RELEASING with its lease, its slot releases it, and every other unit is left alone. -/
def Obligations.IssueUnitTakesHead : Prop :=
  ∀ (q : Req) (u : UnitNo) (rest : List UnitNo) (c : ChanNo) (s : State), InHand .issueUnit q s → s.ready = u :: rest →
    let issued := fun (g : Option GroupNo) =>
      { s.unit u with location := .releasing, group := g, channel := some c,
                      deadline := some (s.siteTime + BitVec.ofNat 32 s.issue.leaseDuration) }
    let answer := Data.issued u ((s.unit u).slot.getD 0) c ((s.siteCode * 16 + c.val) % 65536)
      (s.siteTime + BitVec.ofNat 32 s.issue.leaseDuration) rest.length
    let released := fun t : State => (∀ i, (s.unit u).slot = some i → (t.slot i).state = .releasing
        ∧ (t.slot i).out = ⟨false, 0, .take⟩ ∧ (t.slot i).window = some s.issue.latchWindow)
      ∧ ∀ i, (s.unit u).slot ≠ some i → t.slot i = s.slot i
    (((s.channel c).state = .live ∨ (s.channel c).state = .hold) →
      ∃ t, exec (.issueUnit q 0 c.val) s = .next t ∧ t.unit u = issued none ∧ OtherUnitsSame u s t ∧ t.ready = rest
        ∧ released t ∧ Answered q .ok ⟨false, rest.isEmpty, false, false⟩ answer s t
        ∧ SameButPorts { s with fleet := t.fleet, ready := t.ready, slots := t.slots, tune := t.tune, resync := t.resync,
                                armed := t.armed } t)
    ∧ (∀ (g : GroupNo) (n : Nat), (s.group g).state = .opened → (s.group g).channel = some c →
      ∃ t, exec (.issueUnit q (g.val + 1) n) s = .next t ∧ t.unit u = issued (some g) ∧ OtherUnitsSame u s t ∧ t.ready = rest
        ∧ t.group g = { s.group g with members := (s.group g).members + 1 } ∧ (∀ g', g' ≠ g → t.group g' = s.group g')
        ∧ released t ∧ Answered q .ok ⟨false, rest.isEmpty, false, false⟩ answer s t
        ∧ SameButPorts { s with fleet := t.fleet, ready := t.ready, slots := t.slots, tune := t.tune, resync := t.resync,
                                armed := t.armed, groups := t.groups } t)

/-- Set Time and, while the part runs, the second's advance move the site time alone and then judge every deadline: a unit out on a lease whose
deadline is reached gets OVERDUE, and nothing else of the fleet changes. That a deadline exactly 2147483648 s behind the site time is reached
is the model's choice (log 56). -/
def Obligations.ClockJudgesDeadlines : Prop :=
  ∀ (q : Req) (time : Time) (s : State),
    let judged := fun (now : Time) (e : UnitEntry) =>
      if (e.location = .issued ∨ e.location = .releasing) ∧ (∃ d, e.deadline = some d ∧ (d - now).toInt ≤ 0)
      then { e with overdue := true } else e
    (InHand .setTime q s → ∃ t, exec (.setTime q time) s = .next t ∧ t.siteTime = time
      ∧ (∀ u, t.unit u = judged time (s.unit u))
      ∧ Answered q .ok ⟨false, false, false, time == s.siteTime⟩ (.times s.siteTime time) s t
      ∧ SameButPorts { s with siteTime := time, fleet := t.fleet } t)
    ∧ (s.phase = .running → ∃ t, exec .siteClockAdvance s = .next t ∧ t.siteTime = s.siteTime + 1
      ∧ (∀ u, t.unit u = judged (s.siteTime + 1) (s.unit u))
      ∧ SameButPorts { s with siteTime := s.siteTime + 1, fleet := t.fleet } t)

/-- A latch window that runs out relatches its slot: the unit is IN_SLOT there again with its lease closed; an eligible unit makes the slot READY
and stands at the head of the ready queue, any other makes it FULL and the queue stays. An unenrolled occupant's slot becomes FULL. -/
def Obligations.WindowExpiryReturnsUnit : Prop :=
  ∀ (r : RackNo) (k : SlotNo) (s : State), (s.slot (slotIx r k)).state = .releasing →
    (∀ u, (s.slot (slotIx r k)).occupant = .enrolled u →
      ∃ t, exec (.latchWindowExpiry r k) s = .next t
        ∧ (t.unit u).location = .inSlot ∧ (t.unit u).slot = some (slotIx r k) ∧ (t.unit u).group = none
        ∧ (t.unit u).channel = none ∧ (t.unit u).deadline = none ∧ (t.unit u).overdue = false
        ∧ (eligible s u = true → (t.slot (slotIx r k)).state = .ready ∧ (t.slot (slotIx r k)).out = ⟨true, 0, .ready⟩
            ∧ t.ready = u :: s.ready)
        ∧ (eligible s u = false → (t.slot (slotIx r k)).state = .full ∧ t.ready = s.ready)
        ∧ (t.slot (slotIx r k)).window = none ∧ (∀ j, j ≠ slotIx r k → t.slot j = s.slot j) ∧ t.racks = s.racks ∧ RosterOnly s t)
    ∧ ((∀ u, (s.slot (slotIx r k)).occupant ≠ .enrolled u) →
      ∃ t, exec (.latchWindowExpiry r k) s = .next t ∧ (t.slot (slotIx r k)).state = .full ∧ (t.slot (slotIx r k)).window = none
        ∧ (∀ j, j ≠ slotIx r k → t.slot j = s.slot j) ∧ { t with slots := s.slots } = s)

/-! ## Groups and tune orders (05) -/

/-- Open Group takes the lowest FREE record for a free guide mic and an unbound GROUP channel: the record, the mic's assigned group and the
channel's bound group are written, every other record, unit and bound group is left alone. -/
def Obligations.OpenGroupBinds : Prop :=
  ∀ (q : Req) (u : UnitNo) (c : ChanNo) (g : GroupNo) (s : State), InHand .openGroup q s →
    (s.unit u).kind = .guideMic → (s.unit u).retired = false → (s.unit u).assigned = none →
    (s.channel c).config.mode = .group → (s.channel c).group = none →
    (s.group g).state = .free → (∀ g', g'.val < g.val → (s.group g').state ≠ .free) →
    ∃ t, exec (.openGroup q u c.val) s = .next t
      ∧ t.group g = ⟨.opened, some u, some c, 0, some s.siteTime⟩ ∧ (∀ g', g' ≠ g → t.group g' = s.group g')
      ∧ t.unit u = { s.unit u with assigned := some g } ∧ OtherUnitsSame u s t
      ∧ (t.channel c).group = some g ∧ (∀ c', c' ≠ c → (t.channel c').group = (s.channel c').group)
      ∧ (t.channel c).state = decidedState t c ∧ (∀ c', (t.channel c').config = (s.channel c').config)
      ∧ Answered q .ok noCond (.opened g c ((s.siteCode * 16 + c.val) % 65536) s.siteTime) s t
      ∧ t.slots = s.slots ∧ t.racks = s.racks ∧ t.ready = s.ready ∧ RosterOnly s t

/-- Close Group ends an OPEN group without members at once, freeing its record; an OPEN group with members becomes CLOSING with its members'
deadlines capped at the return grace, each deadline moved counted and every other unit left alone; a CLOSING group has its members' deadlines
capped again, stays CLOSING, and sets C when none moved. That a deadline exactly 2147483648 s behind the site time is not moved is the model's
choice (log 56). -/
def Obligations.CloseGroupEndsOrCaps : Prop :=
  ∀ (q : Req) (g : GroupNo) (s : State), InHand .closeGroup q s →
    let moves := fun e : UnitEntry => (e.location = .issued ∨ e.location = .releasing) ∧ e.group = some g
      ∧ ∃ d, e.deadline = some d ∧ (s.issue.returnGrace : Int) < (d - s.siteTime).toInt
    let capped := fun t : State => ∀ u, t.unit u =
      if moves (s.unit u) then { s.unit u with deadline := some (s.siteTime + BitVec.ofNat 32 s.issue.returnGrace) } else s.unit u
    let moved := ((List.finRange 256).filter fun u => decide (moves (s.unit u))).length
    ((s.group g).state = .opened → (s.group g).members = 0 →
      ∃ t, exec (.closeGroup q (g.val + 1)) s = .next t ∧ t.group g = freeGroup ∧ (∀ g', g' ≠ g → t.group g' = s.group g')
        ∧ (∀ c, (s.group g).channel = some c → (t.channel c).group = none)
        ∧ (∀ u, (s.group g).mic = some u → (t.unit u).assigned = none)
        ∧ (∀ u, (s.group g).mic ≠ some u → t.unit u = s.unit u)
        ∧ Answered q .ok ⟨false, true, false, false⟩ (.closed 0 0 .free) s t ∧ t.slots = s.slots ∧ t.racks = s.racks ∧ RosterOnly s t)
    ∧ ((s.group g).state = .opened → (s.group g).members ≠ 0 →
      ∃ t, exec (.closeGroup q (g.val + 1)) s = .next t ∧ t.group g = { s.group g with state := .closing }
        ∧ (∀ g', g' ≠ g → t.group g' = s.group g') ∧ capped t
        ∧ Answered q .ok noCond (.closed (s.group g).members moved .closing) s t
        ∧ SameButPorts { s with fleet := t.fleet, groups := t.groups } t)
    ∧ ((s.group g).state = .closing → (s.group g).members ≠ 0 →
      ∃ t, exec (.closeGroup q (g.val + 1)) s = .next t ∧ capped t
        ∧ Answered q .ok ⟨false, false, false, moved == 0⟩ (.closed (s.group g).members moved .closing) s t
        ∧ SameButPorts { s with fleet := t.fleet } t)

/-- Move Group rebinds a group to an unbound GROUP channel and moves the channel field of every member and of no other unit; named with its own
channel it changes nothing and sets C, with the counts 0. That its data then hold the old channel, the new channel and the air code
beside the zero counts is the model's choice (log 44). -/
def Obligations.MoveGroupMovesMembers : Prop :=
  ∀ (q : Req) (g : GroupNo) (old new : ChanNo) (s : State), InHand .moveGroup q s → (s.group g).state ≠ .free →
    (s.group g).channel = some old →
    (new = old → exec (.moveGroup q (g.val + 1) new.val) s = .next (answerPort q.port
        ⟨.ok, ⟨false, false, false, true⟩, .moved old new ((s.siteCode * 16 + new.val) % 65536) 0 0 0⟩ s))
    ∧ (new ≠ old → (s.channel new).config.mode = .group → (s.channel new).group = none →
        ∃ t j p d, exec (.moveGroup q (g.val + 1) new.val) s = .next t
          ∧ t.group g = { s.group g with channel := some new } ∧ (∀ g', g' ≠ g → t.group g' = s.group g')
          ∧ (t.channel old).group = none ∧ (t.channel new).group = some g
          ∧ (∀ u, t.unit u = if isOut (s.unit u) && (s.unit u).group == some g then { s.unit u with channel := some new } else s.unit u)
          ∧ Answered q .ok ⟨false, false, decide (0 < d), false⟩
              (.moved old new ((s.siteCode * 16 + new.val) % 65536) j p d) s t
          ∧ t.slots = s.slots ∧ t.racks = s.racks ∧ t.ready = s.ready ∧ RosterOnly s t)

/-- Fetch Tune Orders hands over the oldest 16 orders and keeps RESYNC. Read Tune Map returns exactly the units of its page that are out on
lease, in ascending unit number with the air code of their channel field, and the number of all that are out; it sets N when one stands
above the page and Z when the page is empty; with restart alone it empties the queue and clears RESYNC, C telling that both were so. A
page above 7 is refused with RANGE. -/
def Obligations.TuneQueueDrains : Prop :=
  ∀ (q : Req) (page : Nat) (restart : Bool) (s : State),
    let out := (List.finRange 256).filter fun u => (s.unit u).location == .issued || (s.unit u).location == .releasing
    let here := out.filter fun u => u.val / 32 == page
    (InHand .fetchTuneOrders q s → exec (.fetchTuneOrders q) s = .next (answerPort q.port
      ⟨.ok, ⟨false, s.tune.isEmpty, decide (16 < s.tune.length), false⟩,
        .orders (s.tune.length - 16) s.resync (s.tune.take 16)⟩ { s with tune := s.tune.drop 16 }))
    ∧ (InHand .readTuneMap q s → page ≤ 7 → exec (.readTuneMap q page restart) s = .next (answerPort q.port
        ⟨.ok, ⟨false, here.isEmpty, out.any fun u => decide (32 * page + 32 ≤ u.val), restart && s.tune.isEmpty && !s.resync⟩,
          .tuneMap out.length (here.map fun u =>
            (⟨u, (s.siteCode * 16 + (((s.unit u).channel.map (·.val)).getD 0)) % 65536⟩ : Order))⟩
        (if restart then { s with tune := [], resync := false } else s)))
    ∧ (InHand .readTuneMap q s → 7 < page →
        exec (.readTuneMap q page restart) s = .next (answerPort q.port (refuse .range) s))

/-- R94: an order for a unit that has one queued changes that order's air code in its place and the count stays; otherwise it joins the tail while
fewer than 64 stand, and is dropped with RESYNC set at a full queue; no other order changes. -/
def Obligations.OrdersKeepTheirPlace : Prop :=
  ∀ (u : UnitNo) (air : Nat) (s : State),
    let t := enqueueOrder u air s
    (∀ (k : Nat) (o : Order), s.tune[k]? = some o → t.tune[k]? = some (if o.unit = u then (⟨u, air⟩ : Order) else o))
      ∧ ((∃ o ∈ s.tune, o.unit = u) → t.tune.length = s.tune.length ∧ t.resync = s.resync)
      ∧ ((∀ o ∈ s.tune, o.unit ≠ u) → s.tune.length < 64 → t.tune = s.tune ++ [⟨u, air⟩] ∧ t.resync = s.resync)
      ∧ ((∀ o ∈ s.tune, o.unit ≠ u) → 64 ≤ s.tune.length → t.tune = s.tune ∧ t.resync = true)
      ∧ t.fleet = s.fleet ∧ t.groups = s.groups

/-! ## Channels and mix (06, 07) -/

/-- Report Guide Links applies its records to the link table in the order they stand and decides the bound channels: a record that names a unit
gives its input that unit and quality and takes the unit out of every other entry, a record without one empties its entry. The response
counts the records, the entries that name no guide mic and the groups that lost their guide; the fleet, the groups and the configuration
are left alone. No record or more than eight is refused with BAD_LENGTH, an input above 7 with RANGE and the position of the first record
at fault; that a position is counted from 0 is the model's choice (log 16). -/
def Obligations.GuideReportRewritesTable : Prop :=
  ∀ (q : Req) (rs : List LinkReport) (s : State), InHand .reportGuideLinks q s →
    (1 ≤ rs.length → rs.length ≤ 8 → (∀ r ∈ rs, r.input ≤ 7) →
      let after := { s with links := rs.foldl applyLink s.links }
      ∃ t, exec (.reportGuideLinks q rs) s = .next t ∧ t.links = rs.foldl applyLink s.links
        ∧ Answered q .ok
            ⟨rs.any fun r => r.present && decide (100 < r.quality.toNat), decide (∀ k, (t.links.get k).unit = none), false,
              t.links == s.links⟩
            (.linked rs.length (strangerLinks after) ((List.finRange 12).filter (lostGuide s after)).length) s t
        ∧ (∀ ch, (s.channel ch).group.isSome = true → (t.channel ch).state = decidedState t ch)
        ∧ (∀ ch, (t.channel ch).config = (s.channel ch).config ∧ (t.channel ch).group = (s.channel ch).group)
        ∧ t.fleet = s.fleet ∧ t.groups = s.groups ∧ t.slots = s.slots ∧ RosterOnly { s with links := t.links } t)
    ∧ (∀ (k : Fin 8) u w (table : Table Link 8),
        (applyLink table ⟨k.val, true, u, w⟩).get k = ⟨some u, min w.toNat 100⟩
        ∧ (∀ j, j ≠ k → (applyLink table ⟨k.val, true, u, w⟩).get j = if (table.get j).unit = some u then ⟨none, 0⟩ else table.get j)
        ∧ applyLink table ⟨k.val, false, u, w⟩ = table.set k ⟨none, 0⟩)
    ∧ ((rs.length = 0 ∨ 8 < rs.length) → exec (.reportGuideLinks q rs) s = .next (answerPort q.port (refuse .badLength) s))
    ∧ (rs.length ≤ 8 → (∃ r ∈ rs, 7 < r.input) →
      ∃ n, exec (.reportGuideLinks q rs) s = .next (answerPort q.port (refuse .range (.position n)) s)
        ∧ (∀ r ∈ rs.take n, r.input ≤ 7) ∧ ∃ r, rs[n]? = some r ∧ 7 < r.input)

/-- An accepted Set Channel writes every configured field, restarts the duck of its channel and decides the channel by the table of channel
states, and leaves the other channels' configuration and mix items alone. Outside emergency it restarts the master gain and the tally as
well. While emergency is raised the channel is OFF or in EMERGENCY: one that stays in EMERGENCY keeps its master gain and tally, one that
enters it takes a master gain of 16384, and either is assigned the emergency player that serves its new language, else player 0 when that
is an emergency player, else none, and joins its list alone; one that leaves EMERGENCY leaves its player; no other channel's assignment
changes. -/
def Obligations.SetChannelWritesRecord : Prop :=
  ∀ (q : Req) (c : ChanNo) (f : ChannelForm) (mode : ChannelMode) (s : State), InHand .setChannel q s → f.mode = some mode →
    f.mixList.length ≤ 4 → formRefusal f mode = none → (mode = .group ∨ (s.channel c).group = none) →
    let off := mode = .disabled ∨ (mode = .group ∧ (s.channel c).group = none)
    let written := fun t : State => (t.channel c).config = formConfig f mode ∧ (t.channel c).group = (s.channel c).group
      ∧ (∀ c', c' ≠ c → (t.channel c').config = (s.channel c').config ∧ t.mix.get c' = s.mix.get c')
      ∧ Answered q .ok ⟨decide (32768 < f.duckLevel), false, false, formConfig f mode == (s.channel c).config⟩
          (.channelSet (t.channel c).state (t.channel c).primary) s t
      ∧ t.fleet = s.fleet ∧ t.groups = s.groups ∧ t.slots = s.slots ∧ RosterOnly s t
    (isRaised s = false → (s.channel c).state ≠ .emergency →
      ∃ t, exec (.setChannel q c.val f) s = .next t ∧ written t ∧ t.mix.get c = ⟨32768, f.masterGain.toNat, 0⟩
        ∧ (t.channel c).state = (if off then .off else if (t.channel c).primary.isSome then .live else .hold))
    ∧ (isRaised s = true → poolHolds s →
      let player := ((List.finRange 6).find? fun p => s.emergency.serves.get p == some f.language).or
        (if ownedBy .emergency (s.player 0) then some 0 else none)
      ∃ t, exec (.setChannel q c.val f) s = .next t ∧ written t ∧ (t.channel c).state = (if off then .off else .emergency)
        ∧ t.mix.get c = (if off then ⟨32768, f.masterGain.toNat, 0⟩
            else if (s.channel c).state = .emergency then { s.mix.get c with duck := 32768 } else ⟨32768, 16384, 0⟩)
        ∧ t.emergency.raised = s.emergency.raised ∧ t.emergency.serves = s.emergency.serves
        ∧ (¬ off → t.emergency.assigned.get c = player ∧ ∀ p, player = some p → c ∈ (t.player p).channels)
        ∧ (off → (s.channel c).state = .emergency → t.emergency.assigned.get c = none)
        ∧ (∀ p, (s.channel c).state = .emergency → s.emergency.assigned.get c = some p → t.emergency.assigned.get c ≠ some p →
            c ∉ (t.player p).channels)
        ∧ (∀ c', c' ≠ c → t.emergency.assigned.get c' = s.emergency.assigned.get c' ∧ t.channel c' = s.channel c'))

/-- A running part's audio frame sends the samples computed at the last frame in output slots 0 to 11, 0 in slots 12 to 15, counts the frame in
the window, updates every presence record and decides, and computes each channel's next sample from its sets: LIVE mixes its primary and
its mix list, HOLD its hold player and its mix list, and either ducks them under its announcers; EMERGENCY mixes its emergency player
under a present paging input; OFF gives 0. A sample limited to 16 bits adds 1 to its channel's tally, but not in EMERGENCY; every other
sample leaves the tally as it stood. In start-up presence alone is counted. That a window end still due is taken first is a choice
of the model (log 14) and lies outside. -/
def Obligations.AudioFrameComputes : Prop :=
  ∀ (codes : Table Half 16) (s : State),
    (s.phase = .running → s.window < 4000 →
      let s1 := takePresence codes { s with outNow := s.outNext }
      let voice := fun p : PlayerNo => sampleOf (s1.player p)
      let heard := fun k : SourceNo => if codes.get k = 0x8000 then 0 else (codes.get k).toInt
      let listed := fun ch : Channel => ch.config.mixList.map fun e => (⟨heard e.source, e.gain⟩ : Entry)
      let bSet : ChanNo → List Entry := fun c =>
        let ch := s1.channel c
        match ch.state with
        | .off => []
        | .live => (ch.primary.map fun k => (⟨heard k, ch.config.primaryGain⟩ : Entry)).toList ++ listed ch
        | .hold => (ch.holdPlayer.map fun p => (⟨voice p, ch.config.primaryGain⟩ : Entry)).toList ++ listed ch
        | .emergency => ((s1.emergency.assigned.get c).map fun p => (⟨voice p, 16384⟩ : Entry)).toList
      let cSet : ChanNo → List Entry := fun c =>
        let ch := s1.channel c
        match ch.state with
        | .off => []
        | .live | .hold =>
          ((List.finRange 6).filter fun p => (s1.player p).owner == some .announce && (s1.player p).channels.contains c).map
            fun p => (⟨voice p, ch.config.announceGain⟩ : Entry)
        | .emergency => if (s1.presence.get 15).present then [⟨heard 15, 16384⟩] else []
      let duck := fun c => stepDuck (s1.mix.get c).duck (if (cSet c).isEmpty then 32768 else (s1.channel c).config.duckLevel)
      let y := fun c => if (s1.channel c).state = .off then 0 else
        scaleOut (duckedOut (sumTerms (bSet c)) (sumTerms (cSet c)) (duck c))
          (if (s1.channel c).state = .emergency then 16384 else (s1.mix.get c).master)
      ∃ t, exec (.audioFrame codes) s = .next t ∧ t.outNow = s.outNext ∧ (∀ c, isSample (t.outNext.get c))
        ∧ (∀ c, t.outNext.get c = clampSample (y c))
        ∧ (∀ c, (t.mix.get c).tally =
            if (s1.channel c).state ≠ .emergency ∧ (32767 < y c ∨ y c < -32768) then (s1.mix.get c).tally + 1
            else (s1.mix.get c).tally)
        ∧ (∀ c, (t.mix.get c).duck = duck c ∧ (t.mix.get c).master = (s1.mix.get c).master)
        ∧ (∀ k : Fin 16, 12 ≤ k.val → outputSlot t k = 0) ∧ (∀ c : ChanNo, outputSlot t ⟨c.val, by omega⟩ = s.outNext.get c)
        ∧ t.window = s.window + 1 ∧ (∀ k, t.presence.get k = hear (codes.get k) (s.presence.get k))
        ∧ (∀ c, (t.channel c).state = .off → t.outNext.get c = 0) ∧ t.fleet = s.fleet ∧ t.slots = s.slots
        ∧ RosterOnly { s with presence := t.presence, outNow := t.outNow, outNext := t.outNext, window := t.window } t)
    ∧ (s.phase = .startUp →
      ∃ t, exec (.audioFrame codes) s = .next t ∧ (∀ k, t.presence.get k = hear (codes.get k) (s.presence.get k))
        ∧ { t with presence := s.presence, outNow := s.outNow } = s)

/-- The end of a window trims every channel outside EMERGENCY that clamped 8 or more times and whose gain is above its floor, to the larger of the
floor and its gain less a sixteenth, clears every tally and begins a new window. -/
def Obligations.WindowEndTrims : Prop :=
  ∀ s : State, s.phase = .running → 4000 ≤ s.window →
    ∃ t, exec .mixWindowEnd s = .next t ∧ t.window = 0
      ∧ (∀ c, let m := s.mix.get c
          let floor := (s.channel c).config.floorGain
          t.mix.get c = { m with
            master := if (s.channel c).state ≠ .emergency ∧ 8 ≤ m.tally ∧ floor < m.master then max floor (m.master - m.master / 16)
              else m.master
            tally := 0 })
      ∧ SameButPorts { s with window := 0, mix := t.mix } t

/-- R125, R128: each entry yields one term, its sample times its gain over 16384 rounded to the nearest whole number with an exact half upward;
the product and the term stay in their bounds, a gain of 16384 returns the sample, a gain of 0 yields 0, and an
entry of any gain counts as a member of its set. The ducked output is C plus
B times D over 32768, rounded the same way; at 32768 the ducked part is B, and it never exceeds B in magnitude. -/
def Obligations.MixArithmeticIsRounded : Prop :=
  (∀ e : Entry, -32767 ≤ e.sample → e.sample ≤ 32767 → e.gain ≤ 65535 →
    term e = Int.fdiv (e.sample * e.gain + 8192) 16384
      ∧ -2147385345 ≤ e.sample * e.gain ∧ e.sample * e.gain ≤ 2147385345
      ∧ -131066 ≤ term e ∧ term e ≤ 131066
      ∧ (e.gain = 16384 → term e = e.sample) ∧ (e.gain = 0 → term e = 0))
    ∧ (∀ (e : Entry) (es : List Entry) (ch : Channel),
        sumTerms (e :: es) = term e + sumTerms es ∧ duckTarget ch (e :: es) = ch.config.duckLevel)
    ∧ term ⟨2999, 8192⟩ = 1500 ∧ term ⟨-2999, 8192⟩ = -1499
    ∧ ∀ (b c : Int) (d : Nat), d ≤ 32768 →
      duckedOut b c d = c + Int.fdiv (b * d + 16384) 32768
        ∧ duckedOut b c 32768 = c + b
        ∧ (duckedOut b c d - c).natAbs ≤ b.natAbs
        ∧ (b.natAbs ≤ 655330 → c.natAbs ≤ 786396 → (duckedOut b c d).natAbs ≤ 1441726)

/-- R164: a playing player's sample is its oldest code expanded: sign in bit 7, exponent in bits 6..4, mantissa in bits 3..0, four times
(2m + 33) * 2^e - 33, whoever owns the player and whatever the clip's class; it lies in -32124..32124. -/
def Obligations.CodeExpands : Prop :=
  (∀ (q : Player) (code : Byte) (rest : List Byte), q.state = .playing → q.buffer = code :: rest →
    let e := code.toNat / 16 % 8
    let m := code.toNat % 16
    sampleOf q = (if code.getLsbD 7 then -4 else 4) * (((2 * m + 33) * 2 ^ e - 33 : Nat) : Int)
      ∧ (2 * m + 33) * 2 ^ e - 33 ≤ 8031 ∧ -32124 ≤ sampleOf q ∧ sampleOf q ≤ 32124)
    ∧ [0x00, 0x0F, 0x35, 0x80, 0xC2, 0x7F, 0xFF].map (fun c : Byte => expand c) = [0, 120, 1244, 0, -2236, 32124, -32124]

/-! ## Players and emergency (09, 10) -/

/-- An accepted Start Announcement takes the lowest IDLE player; without one it takes over the lowest player owned by HOLD, whose channels lose
it. The player is written as an allocation writes it and the other players are left alone. Stop Player ends an announcement, reporting the player
as it stood; on an IDLE player it sets C and changes nothing. -/
def Obligations.AnnouncementsStartAndStop : Prop :=
  (∀ (q : Req) (p : PlayerNo) (s : State), InHand .stopPlayer q s →
    let x := s.player p
    let record := Data.stopped x.state x.owner x.clip x.position x.loops x.underrun x.channels
    (x.state = .idle → exec (.stopPlayer q p.val) s = .next (answerPort q.port ⟨.ok, ⟨false, false, false, true⟩, record⟩ s))
    ∧ (x.state ≠ .idle → x.owner = some .announce →
      ∃ t, exec (.stopPlayer q p.val) s = .next t ∧ (t.player p).owner ≠ some .announce ∧ Answered q .ok noCond record s t
        ∧ (∀ c, (t.channel c).state = (s.channel c).state ∧ (t.channel c).config = (s.channel c).config)
        ∧ SameButPorts { s with players := t.players, channels := t.channels, path := t.path, store := t.store } t))
  ∧ ∀ (q : Req) (clip loops : Nat) (cs : List Nat) (p : PlayerNo) (s : State), InHand .startAnnouncement q s →
    1 ≤ clip → clip ≤ 96 → 1 ≤ loops → loops ≤ 15 → 1 ≤ cs.length → cs.length ≤ 12 → (∀ c ∈ cs, c ≤ 11) → cs.Nodup →
    clipIsValid s clip = true → isRaised s = false →
    let written := fun t : State => (t.player p).state = .filling ∧ (t.player p).owner = some .announce
      ∧ (t.player p).clip = some clip ∧ (t.player p).loops = loops ∧ (t.player p).position = 0 ∧ (t.player p).buffer = []
      ∧ (∀ c, c ∈ (t.player p).channels ↔ c.val ∈ cs) ∧ ∀ p', p' ≠ p → t.player p' = s.player p'
    ((s.player p).state = .idle → (∀ p', p'.val < p.val → (s.player p').state ≠ .idle) →
      ∃ t z n, exec (.startAnnouncement q clip loops cs) s = .next t ∧ written t
        ∧ Answered q .ok ⟨false, z, false, false⟩ (.announced p (clipTotal s clip) n none) s t
        ∧ SameButPorts { s with players := t.players, path := t.path, store := t.store } t)
    ∧ ((∀ p', (s.player p').state ≠ .idle) → (s.player p).owner = some .hold →
        (∀ p', p'.val < p.val → (s.player p').owner ≠ some .hold) →
      ∃ t z n, exec (.startAnnouncement q clip loops cs) s = .next t ∧ written t
        ∧ (∀ c ∈ (s.player p).channels, (t.channel c).holdPlayer = none)
        ∧ Answered q .ok ⟨false, z, false, false⟩
            (.announced p (clipTotal s clip) n (some (((s.player p).clip.getD 0), (s.player p).channels))) s t
        ∧ SameButPorts { s with players := t.players, channels := t.channels, path := t.path, store := t.store } t)

/-- Raising emergency from CLEAR, by request or by the input turning active, takes every channel that is not OFF into EMERGENCY and, in a pool
whose records agree, leaves no player with another owner; its cause and time are recorded. -/
def Obligations.RaisingTakesChannels : Prop :=
  ∀ (q : Req) (s : State), isRaised s = false → poolHolds s →
    let taken := fun (cause : RaiseCause) (t : State) => t.emergency.raised = some ⟨cause, s.siteTime⟩
      ∧ (∀ c, (t.channel c).state = if mustBeOff (s.channel c) then .off else .emergency)
      ∧ (∀ c, (t.channel c).state = .emergency → (t.mix.get c).master = 16384 ∧ (t.mix.get c).tally = 0)
      ∧ (∀ p, (t.player p).state ≠ .idle → (t.player p).owner = some .emergency)
      ∧ t.fleet = s.fleet ∧ t.slots = s.slots ∧ RosterOnly s t
    (InHand .raiseEmergency q s → ∃ t z d, exec (.raiseEmergency q) s = .next t ∧ taken .request t
      ∧ Answered q .ok ⟨false, z, false, false⟩ d s t)
    ∧ (s.phase = .running → s.emergency.input = false →
      ∃ t, exec (.evacuationInputChange true) s = .next t ∧ taken .input t ∧ t.emergency.input = true)

/-- Clear Emergency, with the input inactive, ends it: no language player, assignment or player of EMERGENCY is left, and every channel takes the
state that the table of channel states gives it. -/
def Obligations.ClearingReturnsChannels : Prop :=
  ∀ (q : Req) (r : Raised) (s : State), InHand .clearEmergency q s → s.emergency.raised = some r → s.emergency.input = false →
    ∃ t l h o, exec (.clearEmergency q) s = .next t ∧ t.emergency.raised = none
      ∧ (∀ p, t.emergency.serves.get p = none) ∧ (∀ c, t.emergency.assigned.get c = none)
      ∧ (∀ p, ownedBy .emergency (t.player p) = false)
      ∧ (∀ c, (t.channel c).state = if mustBeOff (s.channel c) then .off
          else if (t.channel c).primary.isSome then .live else .hold)
      ∧ Answered q .ok noCond (.cleared l h o (s.siteTime - r.time)) s t ∧ t.fleet = s.fleet ∧ t.slots = s.slots
      ∧ RosterOnly s t

/-- Pins: the service key's level, and the filtered input's levels that raise nothing, are taken and change nothing else; the alarm output is
asserted while some slot is in FAULT; the attention line is driven outside STARTING by an enabled port whose attention enable is set while a
response is ready or a notice waits. -/
def Obligations.PinsFollowState : Prop :=
  ∀ (level : Bool) (s : State),
    exec (.serviceKeyChange level) s = .next { s with key := level }
    ∧ (s.phase = .running → (level = false ∨ isRaised s = true ∨ s.emergency.input = true) →
        exec (.evacuationInputChange level) s = .next { s with emergency := { s.emergency with input := level } })
    ∧ (s.phase = .startUp →
        exec (.evacuationInputChange level) s = .next { s with emergency := { s.emergency with input := level } })
    ∧ (alarmOutput s = true ↔ ∃ i, (s.slot i).state = .fault)
    ∧ ∀ p, (attentionLine (s.port p) = true ↔ (s.port p).enabled = true ∧ (s.port p).attention = true
        ∧ (s.port p).state ≠ .starting ∧ ((∃ r, (s.port p).state = .ready r) ∨ (s.port p).queue ≠ []))

/-! ## Clip store (08) -/

/-- The program requests, accepted from READY, from GATHERING or from a SUSPENDED state, put the store in PROGRAMMING with their bytes and wait at
their port: Begin Clip with the header of the block it takes; Append Audio with its codes in the clip's last block, with that block's sample
count when they fill it, and with a new block's header and the codes left over when they do not fit; Seal Clip and Delete Clip with their
markers. Nothing else but the port changes, and for Delete Clip the clip's state, which is STALE from its acceptance: that moment is the
model's choice (log 45), as is PROGRAMMING while a read in service still keeps the operation from beginning (log 60). -/
def Obligations.ProgramRequestsStart : Prop :=
  ∀ (q : Req) (s : State), s.store.state ∈ [.ready, .gathering, .suspendedAuto, .suspendedHeld] → s.store.save = none →
    let back := if s.store.state = .gathering then .erasing else s.store.state
    let started := fun (i : Instr) (job : ProgramJob) (cells : List (Nat × Byte)) (directory : List Clip) =>
      ∃ t, exec i s = .next t ∧ StillWaits q s t
        ∧ t.store = { s.store with state := .programming, returnTo := back, op := some ⟨cells, job, some q.port⟩ }
        ∧ t.directory = directory ∧ SameButPorts { s with store := t.store, directory := t.directory } t
    (∀ clip l cls b, InHand .beginClip q s → 1 ≤ clip → clip ≤ 96 → s.clip clip = none → takeBlock s cls = .ok b →
        started (.beginClip q clip l (some cls)) (.begin clip l cls b) (takenCells b clip 0 l cls) s.directory)
    ∧ (∀ (c : Clip) b codes, InHand .appendAudio q s → 1 ≤ codes.length → codes.length ≤ 192 → s.clip c.id = some c →
        c.state = .writing → c.blocks.getLast? = some b → mayWrite s b = true →
        let used := c.total - 131056 * (c.blocks.length - 1)
        let room := 131056 - used
        let count := cellsAt (addressOf b 10) (le 4 131056)
        (used + codes.length < 131056 →
          started (.appendAudio q c.id codes) (.append c.id codes.length none) (cellsAt (addressOf b (16 + used)) codes) s.directory)
        ∧ (used + codes.length = 131056 →
          started (.appendAudio q c.id codes) (.append c.id codes.length none)
            (cellsAt (addressOf b (16 + used)) codes ++ count) s.directory)
        ∧ (∀ new, 131056 < used + codes.length → c.blocks.length < 16 → takeBlock s c.cls = .ok new →
          started (.appendAudio q c.id codes) (.append c.id codes.length (some new))
            (cellsAt (addressOf b (16 + used)) (codes.take room) ++ (if room = 0 then [] else count)
              ++ takenCells new c.id c.blocks.length c.language c.cls ++ cellsAt (addressOf new 16) (codes.drop room)) s.directory))
    ∧ (∀ c : Clip, InHand .sealClip q s → s.clip c.id = some c → c.state = .writing → c.total ≠ 0 →
        (∀ b ∈ c.blocks, mayWrite s b = true) →
        started (.sealClip q c.id) (.seal c.id) (sealAll c.blocks.length c.total c.blocks) s.directory)
    ∧ (∀ c : Clip, InHand .deleteClip q s → s.clip c.id = some c → c.state ≠ .stale → playing s c.id = none →
        (∀ b ∈ c.blocks, mayWrite s b = true) →
        started (.deleteClip q c.id) (.delete c.id) (c.blocks.map fun b => (addressOf b 15, 0x00))
          (s.directory.map fun d => if d.id = c.id then { d with state := .stale } else d))

/-- A program operation entered from READY ends: each byte reads its old content AND the new value and the store is READY; a site record that
does not verify is not left valid. When every byte reads as intended, a begun clip is WRITING with its block, an appended clip has its
codes counted and its new block, a sealed clip is VALID, a deleted clip stays STALE, a taken block is WRITTEN, and the request is
answered with the data of its rule. When some byte does not, the clip is STALE, each failed block is DIRTY, STORE_FAULT is queued for the
lowest of them first, and the request is answered VERIFY_FAIL. These are the model's: the moments of STALE and WRITTEN (log 45), that each of
several failed blocks is DIRTY with STORE_FAULT for the lowest first (log 17), what a record that does not verify leaves in block 0
(log 48), and the mask bit of STORE_FAULT (log 54). -/
def Obligations.ProgramDoneCommits : Prop :=
  ∀ (op : ProgramOp) (s : State), s.store.state = .programming → s.store.returnTo = .ready → s.store.op = some op →
    s.path.inService = none →
    (∃ t, exec (.programDone []) s = .next t ∧ t.store.state = .ready ∧ t.store.op = none
      ∧ (op.job ≠ .record ∨ verified (programCells s.mem op.cells) op.cells = true → t.mem = programCells s.mem op.cells)
      ∧ (op.job = .record → verified (programCells s.mem op.cells) op.cells = false →
          t.mem = spoilRecord (programCells s.mem op.cells))
      ∧ SameButPorts { s with mem := t.mem, store := t.store, directory := t.directory, blocks := t.blocks, players := t.players,
                              channels := t.channels, path := t.path, emergency := t.emergency } t)
    ∧ ∀ p j, op.port = some p → (s.port p).state = .executing j →
      let renewed := fun (id : Nat) (f : Clip → Clip) => s.directory.map fun d => if d.id = id then f d else d
      (verified (programCells s.mem op.cells) op.cells = true →
        let ends := fun (d : Data) (blocks : Table BlockState 256) (t : State) => exec (.programDone []) s = .next t
          ∧ t.blocks = blocks ∧ (t.port p).state = .ready ⟨.ok, noCond, j.tag, d⟩
        (∀ clip l cls b, op.job = .begin clip l cls b → b.val ≠ 0 →
          ∃ t, ends (.taken b) (s.blocks.set b .written) t ∧ (⟨clip, l, cls, .writing, [b], 0⟩ : Clip) ∈ t.directory)
        ∧ (∀ (c : Clip) n last, op.job = .append c.id n none → s.clip c.id = some c → c.blocks.getLast? = some last →
          ∃ t, ends (.appended (c.total + n) last (131056 - (c.total + n - 131056 * (c.blocks.length - 1)))) s.blocks t
            ∧ t.directory = renewed c.id fun d => { d with total := d.total + n })
        ∧ (∀ (c : Clip) n b, op.job = .append c.id n (some b) → s.clip c.id = some c → b.val ≠ 0 →
          ∃ t, ends (.appended (c.total + n) b (131056 - (c.total + n - 131056 * c.blocks.length))) (s.blocks.set b .written) t
            ∧ t.directory = renewed c.id fun d => { d with total := d.total + n, blocks := d.blocks ++ [b] })
        ∧ (∀ c : Clip, op.job = .seal c.id → s.clip c.id = some c →
          ∃ t, ends (.sealed c.blocks.length c.total) s.blocks t ∧ t.directory = renewed c.id fun d => { d with state := .valid })
        ∧ (∀ id, op.job = .delete id → ∃ t, ends .none s.blocks t ∧ t.directory = s.directory))
      ∧ ∀ faults : List (Nat × Byte),
        let m := programmed s.mem op.cells faults
        let failed := fun b : BlockNo => ∃ c ∈ op.cells, c.1 / 131072 = b.val ∧ byteAt m c.1 ≠ c.2
        verified m op.cells = false → op.job ≠ .record →
        ∃ t, exec (.programDone faults) s = .next t ∧ t.mem = m ∧ t.store.state = .ready
          ∧ (t.port p).state = .ready ⟨.verifyFail, noCond, j.tag, .none⟩
          ∧ (∀ b, failed b → b.val ≠ 0 → t.blocks.get b = .dirty)
          ∧ (∀ b, ¬ failed b → takenBy op.job ≠ some b → t.blocks.get b = s.blocks.get b)
          ∧ (∀ clip l cls b, op.job = .begin clip l cls b → (⟨clip, l, cls, .stale, [b], 0⟩ : Clip) ∈ t.directory)
          ∧ (∀ id n taken, op.job = .append id n taken →
              t.directory = renewed id fun d => { d with state := .stale, blocks := d.blocks ++ taken.toList })
          ∧ (∀ id, op.job = .seal id → t.directory = renewed id fun d => { d with state := .stale })
          ∧ (∀ id, op.job = .delete id → t.directory = s.directory)
          ∧ (∀ b p', failed b → (∀ b', failed b' → b.val ≤ b'.val) → s.phase = .running → (s.port p').enabled = true →
              (s.port p').mask.getLsbD 19 = true → (s.port p').queue = [] →
              (t.port p').queue.head? = some ⟨.storeFault, .block b, detail 0 (jobClip op.job) 0 0, s.siteTime⟩)

/-- Programming changes 1-bits to 0 and cannot turn a 0 back into 1, whatever bytes of it come out wrong, and a byte that no cell names reads as
before. -/
def Obligations.ProgrammingOnlyClears : Prop :=
  ∀ (m : List Host.Cell) (cells faults : List (Nat × Byte)) (a : Nat), Memory.wf m = true →
    (∀ k, (byteAt (programCells m cells) a).getLsbD k = true → (byteAt m a).getLsbD k = true)
      ∧ (∀ k, (byteAt (programmed m cells faults) a).getLsbD k = true → (byteAt m a).getLsbD k = true)
      ∧ ((∀ c ∈ cells, c.1 ≠ a) → byteAt (programCells m cells) a = byteAt m a ∧ byteAt (programmed m cells faults) a = byteAt m a)

/-- An erase batch from its first Erase Block to the end of a block's erase: READY gathers, the window's end begins the marks, the marks make every
member DIRTY with byte 0 at 0x00, and an erased block reads 0xFF throughout, is ERASED and has left the batch. -/
def Obligations.EraseBatchRuns : Prop :=
  ∀ (q : Req) (b : BlockNo) (s : State), memoryCanonical s →
    (InHand .eraseBlock q s → b.val ≠ 0 → s.store.state = .ready → s.store.save = none →
      (∀ c ∈ s.directory, b ∈ c.blocks → c.state = .stale) → mayWrite s b = true →
      ∃ t, exec (.eraseBlock q b.val) s = .next t ∧ t.store.state = .gathering ∧ t.store.batch = [⟨b, s.key⟩]
        ∧ t.store.stage = .notBegun ∧ Answered q .started noCond (.batch 1) s t ∧ SameButPorts { s with store := t.store } t)
    ∧ (s.store.state = .gathering → s.store.stage = .notBegun →
      ∃ t, exec .gatheringWindowExpiry s = .next t ∧ t.store.state = .erasing ∧ t.store.stage = .marking
        ∧ t.store.batch = s.store.batch ∧ SameButPorts { s with store := t.store } t)
    ∧ (s.store.state = .erasing → s.store.stage = .marking → s.path.inService = none →
      ∃ t, exec (.pendingMarksDone []) s = .next t ∧ t.store.stage = .erasing ∧ t.store.batch = s.store.batch
        ∧ (∀ e ∈ s.store.batch, byteAt t.mem (addressOf e.block 0) = 0x00
            ∧ (e.block.val ≠ 0 → t.blocks.get e.block = .dirty))
        ∧ SameButPorts { s with mem := t.mem, blocks := t.blocks, store := t.store } t)
    ∧ (s.store.state = .erasing → s.store.stage = .erasing → s.path.inService = none → s.store.save = none → b.val ≠ 0 →
      s.store.inHand = some b →
      ∃ t, exec (.blockEraseDone []) s = .next t
        ∧ (∀ k, k < 131072 → byteAt t.mem (addressOf b k) = 0xFF)
        ∧ (∀ a, a / 131072 ≠ b.val → byteAt t.mem a = byteAt s.mem a)
        ∧ t.blocks = s.blocks.set b .erased ∧ (∀ e ∈ t.store.batch, e.block ≠ b)
        ∧ SameButPorts { s with mem := t.mem, blocks := t.blocks, directory := t.directory, store := t.store } t)

/-- Suspension and resumption: Suspend Store holds a gathering batch at once and stops a running erase, waiting until it has stopped; the stop
leaves the block in hand and answers; Resume Store and the quiet timer begin ERASING again when no read is waiting or in service. -/
def Obligations.SuspensionHoldsErase : Prop :=
  ∀ (q : Req) (s : State),
    (InHand .suspendStore q s → s.store.state = .gathering →
      ∃ t, exec (.suspendStore q) s = .next t ∧ t.store = { s.store with state := .suspendedHeld }
        ∧ Answered q .ok noCond (.suspended .suspendedHeld s.store.inHand) s t ∧ SameButPorts { s with store := t.store } t)
    ∧ (InHand .suspendStore q s → s.store.state = .erasing → s.store.stage = .erasing →
      ∃ t, exec (.suspendStore q) s = .next t ∧ StillWaits q s t
        ∧ t.store = { s.store with state := .suspending, target := .held, suspendWaiter := some q.port }
        ∧ SameButPorts { s with store := t.store } t)
    ∧ (∀ p j, s.store.state = .suspending → s.store.target = .held → s.store.suspendWaiter = some p →
        (s.port p).state = .executing j →
      ∃ t, exec .suspensionComplete s = .next t ∧ t.store = { s.store with state := .suspendedHeld, suspendWaiter := none }
        ∧ (t.port p).state = .ready ⟨.ok, noCond, j.tag, .suspended .suspendedHeld s.store.inHand⟩
        ∧ (∀ a, (∀ b, s.store.inHand = some b → a / 131072 ≠ b.val) → byteAt t.mem a = byteAt s.mem a)
        ∧ SameButPorts { s with mem := t.mem, free := t.free, store := t.store } t)
    ∧ (InHand .resumeStore q s → s.store.state = .suspendedHeld → s.store.stage = .erasing → pathQuiet s = true →
      ∃ t, exec (.resumeStore q) s = .next t ∧ t.store = { s.store with state := .erasing, inHand := lowestOf s.store.batch }
        ∧ Answered q .ok noCond (.storeState .erasing) s t ∧ SameButPorts { s with store := t.store } t)
    ∧ (s.store.state = .suspendedAuto → s.store.stage = .erasing → pathQuiet s = true →
        exec .quietTimerExpiry s = .next { s with store := { s.store with state := .erasing, inHand := lowestOf s.store.batch } })

/-- The read path: Read Store places a read at position 6 and waits; with the path free and the store serving reads, the first waiting requester
after the one served last is served; a Read Store read in service is answered with its bytes, leaving memory alone; a player's
refill appends codes to its buffer and frees the path. -/
def Obligations.ReadPathServesInTurn : Prop :=
  ∀ (q : Req) (b : BlockNo) (o n : Nat) (s : State),
    (InHand .readStore q s → 1 ≤ n → n ≤ 240 → o + n ≤ 131072 → erasesBlock s = false →
      ∃ t, exec (.readStore q b o n) s = .next t ∧ StillWaits q s t ∧ t.path = { s.path with raw := some ⟨b, o, n, q.port⟩ }
        ∧ SameButPorts { s with path := t.path } t)
    ∧ (∀ k : Fin 7, s.path.inService = none → servesReads s.store.state = true → readWaits s k = true →
        (∀ j : Fin 7, readWaits s j = true → (k.val + 6 - s.path.lastServed.val) % 7 ≤ (j.val + 6 - s.path.lastServed.val) % 7) →
      ∃ t, exec .readPathServe s = .next t ∧ t.path.inService = some k ∧ t.path.lastServed = k
        ∧ (∀ p : PlayerNo, p.val = k.val → t.player p = { s.player p with read := .inService })
        ∧ (∀ p : PlayerNo, p.val ≠ k.val → t.player p = s.player p) ∧ { t with path := s.path, players := s.players } = s)
    ∧ (∀ r j, s.path.inService = some 6 → s.path.raw = some r → (s.port r.port).state = .executing j →
      ∃ t bs, exec .readStoreComplete s = .next t ∧ (t.port r.port).state = .ready ⟨.ok, noCond, j.tag, .bytes bs⟩
        ∧ bs.length = r.length ∧ (∀ k, k < r.length → bs[k]? = some (byteAt s.mem (addressOf r.block (r.offset + k))))
        ∧ t.path.inService = none ∧ t.path.raw = none ∧ SameButPorts { s with path := t.path } t)
    ∧ (∀ p : PlayerNo, s.path.inService = some (pathPosition p) → s.path.discard = false →
      ∃ t, exec .refillLand s = .next t ∧ t.path.inService = none
        ∧ (t.player p).buffer = (s.player p).buffer ++ refillCodes s (s.player p)
        ∧ ((s.player p).state = .filling → (t.player p).state = .playing) ∧ (refillCodes s (s.player p)).length ≤ 256
        ∧ (∀ p', p' ≠ p → t.player p' = s.player p') ∧ { t with path := s.path, players := s.players, store := s.store } = s)

/-- Protect Group, and Unprotect Group with the key held or the group unprotected, write one indication of the map. Without an erase batch
nothing else changes. Protect Group drops the group's unkeyed entries from a batch that is gathering or erasing, counting them: where the
block in hand is one of them its erase stops and the next block follows, and a batch left empty ends with the store READY and
ERASE_DONE. That the subject of ERASE_DONE is the lowest block that ever joined the batch is the model's choice (log 18), as are the bits
of the map and of the mask (log 54). -/
def Obligations.ProtectionIsWritten : Prop :=
  ∀ (q : Req) (g : Fin 16) (s : State),
    let written := fun t : State => ∀ k : Fin 16, t.prot.getLsbD k.val = (decide (k = g) || s.prot.getLsbD k.val)
    let gone := s.store.batch.filter fun e => e.block.val / 16 == g.val && !e.keyed
    let rest := s.store.batch.filter fun e => !(e.block.val / 16 == g.val && !e.keyed)
    let tally := { s.store.tally with dropped := s.store.tally.dropped + gone.length }
    (InHand .protectGroup q s → s.store.batch = [] →
      ∃ t, exec (.protectGroup q g.val) s = .next t ∧ written t
        ∧ Answered q .ok ⟨false, false, false, s.prot.getLsbD g.val⟩ (.protection t.prot) s t
        ∧ SameButPorts { s with prot := t.prot } t)
    ∧ (InHand .protectGroup q s → s.store.state = .gathering → s.store.inHand = none → rest ≠ [] →
      ∃ t, exec (.protectGroup q g.val) s = .next t ∧ written t ∧ t.store = { s.store with batch := rest, tally := tally }
        ∧ Answered q .ok ⟨false, false, false, s.prot.getLsbD g.val⟩ (.protection t.prot) s t
        ∧ SameButPorts { s with prot := t.prot, store := t.store } t)
    ∧ (InHand .protectGroup q s → s.store.state = .gathering → s.store.inHand = none → s.store.save = none → gone ≠ [] → rest = [] →
      ∃ t, exec (.protectGroup q g.val) s = .next t ∧ written t ∧ t.store.state = .ready ∧ t.store.batch = []
        ∧ (∀ p, s.phase = .running → (s.port p).enabled = true → (s.port p).mask.getLsbD 18 = true → (s.port p).queue.length < 16 →
            (t.port p).queue = (s.port p).queue ++
              [⟨.eraseDone, .block tally.lowest, detail tally.erased tally.dirty tally.dropped tally.clips, s.siteTime⟩])
        ∧ Answered q .ok ⟨false, false, false, s.prot.getLsbD g.val⟩ (.protection t.prot) s t
        ∧ SameButPorts { s with prot := t.prot, store := t.store } t)
    ∧ (∀ e, InHand .protectGroup q s → s.store.state = .erasing → s.store.stage = .erasing → s.store.inHand = some e.block →
        e ∈ gone → (∀ d ∈ rest, d.block ≠ e.block) → rest ≠ [] →
      ∃ t, exec (.protectGroup q g.val) s = .next t ∧ written t
        ∧ t.store = { s.store with batch := rest, tally := tally, inHand := lowestOf rest }
        ∧ (∀ a, a / 131072 ≠ e.block.val → byteAt t.mem a = byteAt s.mem a)
        ∧ Answered q .ok ⟨false, false, false, s.prot.getLsbD g.val⟩ (.protection t.prot) s t
        ∧ SameButPorts { s with prot := t.prot, store := t.store, mem := t.mem, free := t.free } t)
    ∧ (InHand .unprotectGroup q s → (s.key = true ∨ s.prot.getLsbD g.val = false) →
      ∃ t, exec (.unprotectGroup q g.val) s = .next t
        ∧ (∀ k : Fin 16, t.prot.getLsbD k.val = (!decide (k = g) && s.prot.getLsbD k.val))
        ∧ Answered q .ok ⟨false, false, false, !s.prot.getLsbD g.val⟩ (.protection t.prot) s t
        ∧ SameButPorts { s with prot := t.prot } t)

/-- Save Site Record, accepted, begins a batch of block 0 alone with the record as it stands and is answered STARTED: without parameters with the
loaded site code, default clip and languages, with thirteen bytes with those they spell. A row whose form is not the one its bytes spell
changes nothing, which is the model's choice (log 2). A save whose outcome is known ends with RECORD_SAVED at every port that takes it,
and changes nothing else but the save. These are the model's choice: that a tag's first character comes first (log 15), where the fields of
the record image lie (log 4), that the notice comes by a command of its own (log 21), and its mask bit (log 54). -/
def Obligations.SaveRunsToItsNotice : Prop :=
  ∀ (q : Req) (form : Option SaveForm) (s : State),
    let params := requestParams (s.port q.port)
    let f := form.getD ⟨s.siteCode, s.emergency.defaultClip.getD 0, s.emergency.languages⟩
    let agrees := (params = [] ∧ form = none)
      ∨ ∃ (lo hi clip : Byte) (tags : List Byte), params = lo :: hi :: clip :: tags ∧ tags.length = 10 ∧ form = some f
          ∧ f.siteCode = lo.toNat + 256 * hi.toNat ∧ f.defaultClip = clip.toNat
          ∧ ∀ i : Fin 5, tags[2 * i.val]? = some (f.languages.get i).first ∧ tags[2 * i.val + 1]? = some (f.languages.get i).second
    (InHand .saveSiteRecord q s → agrees → 1 ≤ f.siteCode → f.siteCode ≤ 4095 → f.defaultClip ≤ 96 → s.store.state = .ready →
      s.store.save = none → mayWrite s 0 = true →
      ∃ t, exec (.saveSiteRecord q form) s = .next t ∧ t.store.state = .erasing ∧ t.store.stage = .marking
        ∧ t.store.batch = [⟨0, s.key⟩] ∧ t.store.save = some ⟨recordImage s f, f.siteCode, none⟩
        ∧ Answered q .started noCond (.saving f.siteCode) s t ∧ SameButPorts { s with store := t.store } t)
    ∧ (InHand .saveSiteRecord q s → ¬ agrees → exec (.saveSiteRecord q form) s = .next s)
    ∧ (∀ v o p, s.store.save = some v → v.outcome = some o → s.phase = .running → (s.port p).enabled = true →
        (s.port p).mask.getLsbD 20 = true → (s.port p).queue.length < 16 →
      ∃ t d, exec .recordSaveDone s = .next t ∧ t.store = { s.store with save := none } ∧ d.b0.toNat = outcomeCode o ∧ d.b3 = 1
        ∧ (t.port p).queue = (s.port p).queue ++ [⟨.recordSaved, .block 0, d, s.siteTime⟩]
        ∧ SameButPorts { s with store := t.store } t)

/-! ## Ports, resets and start-up (11, 12) -/

/-- Set Port Options replaces the three options of an enabled port and nothing else, at its own port or at another, with C when all three stood
already: every other field of the named port, of the requesting port but for its answer, and of the third port stands. A number that names
no port is refused with RANGE and a port that is not enabled with CONFLICT, and nothing changes. -/
def Obligations.PortOptionsAreReplaced : Prop :=
  ∀ (q : Req) (n : Nat) (mask : BitVec 24) (attention invert : Bool) (s : State), InHand .setPortOptions q s →
    (∀ p, portOf n = some p → (s.port p).enabled = true →
      let named := { s.port p with mask := mask, attention := attention, invert := invert }
      let c := (s.port p).mask == mask && (s.port p).attention == attention && (s.port p).invert == invert
      let answered := fun (x : Port) (j : Job) =>
        { x with state := .ready ⟨.ok, ⟨false, false, false, c⟩, j.tag, .options mask attention invert⟩ }
      ∃ t, exec (.setPortOptions q n mask attention invert) s = .next t
        ∧ (p ≠ q.port → t.port p = named)
        ∧ (∀ j, (s.port q.port).state = .executing j → t.port q.port = answered (if q.port = p then named else s.port q.port) j)
        ∧ (∀ p', p' ≠ p → p' ≠ q.port → t.port p' = s.port p') ∧ SameButPorts s t)
    ∧ (portOf n = none → exec (.setPortOptions q n mask attention invert) s = .next (answerPort q.port (refuse .range) s))
    ∧ (∀ p, portOf n = some p → (s.port p).enabled = false →
        exec (.setPortOptions q n mask attention invert) s = .next (answerPort q.port (refuse .conflict) s))

/-- A frame written at an enabled port is judged by the first check it fails, in order, while the port is IDLE; in EXECUTING and RESPONSE_READY it
sets LOST_REQUEST alone, and in STARTING it leaves no trace; no other part of the machine is touched. -/
def Obligations.AdmissionInOrder : Prop :=
  ∀ (p : PortId) (bs : List Byte) (s : State), (s.port p).enabled = true →
    let byte := fun k => bs[k]?.getD 0
    let refused := fun st => PortState.ready ⟨st, noCond, byte 1, .none⟩
    let admitted : PortState :=
      if bs.length < 4 ∨ 252 < bs.length then refused .badLength
      else if crc8 bs.dropLast ≠ byte (bs.length - 1) then refused .badCheck
      else if 248 < (byte 2).toNat ∨ (byte 2).toNat ≠ bs.length - 4 then refused .badLength
      else
        match allCommands.find? (fun c => commandCode c == byte 0) with
        | none => refused .unknownCommand
        | some c =>
          if hasRight s.straps p c = true then .executing ⟨byte 1, c, (bs.drop 3).dropLast, false, false⟩ else refused .noRights
    ∃ t, exec (.frameWrite p bs) s = .next t ∧ (∀ p', p' ≠ p → t.port p' = s.port p') ∧ SameButPorts s t
      ∧ ((s.port p).state = .starting → t.port p = s.port p)
      ∧ (∀ j, (s.port p).state = .executing j → t.port p = { s.port p with lost := true })
      ∧ (∀ r, (s.port p).state = .ready r → t.port p = { s.port p with lost := true })
      ∧ ((s.port p).state = .idle → t.port p = { s.port p with state := admitted })

/-- A read transfer at an enabled port sends the frame its port state calls for, STARTING, NONE, PENDING with the progress marker, or the
response, cut where the clock stops and followed by 0x00 beyond its end. A response read whole returns the port to IDLE with LOST_REQUEST
clear, a PENDING frame read whole turns the marker, and a frame cut short changes no port state. A disabled port and a part held in reset
send nothing, and an ignored transfer changes nothing. -/
def Obligations.ReadTransferSendsFrame : Prop :=
  ∀ (p : PortId) (n : Nat) (code : Byte) (s : State),
    let x := s.port p
    let checked := fun body : List Byte => body ++ [if x.invert then ~~~ (crc8 body) else crc8 body]
    let frame := frameOf x
    exec (.ignoredTransfer p code) s = .next s
    ∧ (x.enabled = false ∨ s.phase = .held → exec (.readTransfer p n) s = .next s)
    ∧ (x.state = .starting → frame = checked [0xE2, 0, 0, 0, 0])
    ∧ (x.state = .idle → frame = checked [0xE0, 0, 0, 0, 0])
    ∧ (∀ j, x.state = .executing j →
        frame = checked [0xE1, if x.lost then 0x80 else 0, j.tag, 1, 0, if j.marker then 1 else 0])
    ∧ (∀ r, x.state = .ready r → frame = checked ([statusCode r.status, condByte r.cond x.lost, r.tag]
        ++ le 2 (dataBytes r.data).length ++ dataBytes r.data))
    ∧ (x.enabled = true → s.phase ≠ .held →
      ∃ t, exec (.readTransfer p n) s = .next t ∧ (∀ p', p' ≠ p → t.port p' = s.port p') ∧ SameButPorts s t
        ∧ (t.port p).sent = frame.take n ++ List.replicate (n - frame.length) 0x00
        ∧ (n < frame.length → (t.port p).state = x.state ∧ (t.port p).lost = x.lost)
        ∧ (frame.length ≤ n →
            (∀ r, x.state = .ready r → (t.port p).state = .idle ∧ (t.port p).lost = false)
            ∧ (∀ j, x.state = .executing j → (t.port p).state = .executing { j with marker := !j.marker } ∧ (t.port p).lost = x.lost)
            ∧ (x.state = .starting ∨ x.state = .idle → (t.port p).state = x.state ∧ (t.port p).lost = x.lost))
        ∧ (t.port p).queue = x.queue)

/-- Every reset, of each kind, begins start-up again with every block at its value after reset: all slots OFFLINE, the racks without grants,
waits or misses, all players IDLE, all groups FREE, all channels OFF, the queues empty and READY_LOW armed, nothing present, no guide linked,
the ducks full and the tallies and the window 0, the store READY, emergency CLEAR without assignments, the site time 0 and every port
STARTING. The directory and the block table are those of the scan, and the settings, the fleet and the port masks those of the record,
or the defaults. The reset line holds the part until its release, and Reset Part keeps the sampled straps. These are the model's: a
power-on ends the hold of the reset line (log 41), the service key's level outlives every reset (log 29), the straps last sampled stand while
the line holds the part (log 7), where the record's fields and the bits of its masks lie (logs 4 and 54), how a repeated serial and a channel
record that Set Channel would refuse are loaded (logs 38 and 39), block 0's place in the table (log 22), and what store work cut short
leaves in the array (logs 10, 11, 23 and 48), a record that had verified before its RECORD_SAVE_DONE included (log 59), that the emergency
language list stands entry by entry as stored, repeats included (log 30), a tag's first character first (log 15), and that a slot record
holds the outputs last sent (log 27). -/
def Obligations.ResetsBeginStartUp : Prop :=
  ∀ (q : Req) (straps : Straps) (s : State),
    let fresh := fun (kind : ResetKind) (st : Straps) (t : State) => t.resetKind = kind ∧ t.straps = st
      ∧ (∀ i, t.slot i = resetSlot) ∧ (∀ p, t.player p = idlePlayer) ∧ (∀ g, t.group g = freeGroup) ∧ t.ready = [] ∧ t.tune = []
      ∧ t.resync = false ∧ t.siteTime = 0 ∧ t.emergency.raised = none ∧ t.emergency.input = false ∧ t.store = resetStore
      ∧ t.path = resetPath ∧ (∀ c, (t.channel c).state = .off ∧ (t.channel c).group = none) ∧ (∀ c, t.outNext.get c = 0)
      ∧ (∀ p, (t.port p).state = .starting ∧ (t.port p).queue = [] ∧ (t.port p).lost = false) ∧ t.pending = s.pending
      ∧ (∀ u, (t.unit u).location = .loose ∧ (t.unit u).group = none) ∧ t.key = s.key
      ∧ Configured t ∧ t.startUp = beginStartUp ∧ t.armed = true ∧ t.window = 0 ∧ t.mem = (cutShort s).mem
      ∧ t.directory = scanDirectory t.mem ∧ (∀ b, t.blocks.get b = scanTable t.mem t.directory b)
      ∧ (∀ r, t.rack r = { resetRack with budget := (t.rack r).budget })
      ∧ (∀ k, t.presence.get k = ⟨false, 0, 0⟩) ∧ (∀ k, t.links.get k = ⟨none, 0⟩)
      ∧ (∀ c, t.channel c = ⟨(t.channel c).config, none, .off, none, none⟩)
      ∧ (∀ c, t.mix.get c = ⟨32768, (t.channel c).config.masterGain, 0⟩) ∧ (∀ c, t.outNow.get c = 0)
      ∧ (∀ p, t.emergency.serves.get p = none) ∧ (∀ c, t.emergency.assigned.get c = none)
      ∧ (∀ p, t.port p = { resetPort with enabled := (t.port p).enabled, mask := loadedMask t p })
      ∧ (⟨t.desk.enabled, t.transmitter.enabled, t.operations.enabled⟩ : Straps) = enabledPorts st
    (∃ t, exec (.powerOn straps) s = .next t ∧ fresh .powerOn straps t ∧ t.phase = .startUp)
    ∧ (∃ t, exec .resetLineAssert s = .next t ∧ fresh .resetLine s.straps t ∧ t.phase = .held)
    ∧ (s.phase = .held → ∃ t, exec (.resetLineRelease straps) s = .next t ∧ fresh .resetLine straps t ∧ t.phase = .startUp)
    ∧ (InHand .resetPart q s → ∃ t, exec (.resetPart q) s = .next t ∧ fresh .resetPart s.straps t ∧ t.phase = .startUp)

/-- When every rack's start-up poll has been answered or missed and no identify attempt is in progress, start-up ends: the part runs, every
enabled port that was STARTING is IDLE, a port whose queue was empty holds STARTUP as its first notice, and, with emergency clear and the
input inactive, every channel has the state the table of channel states gives it. -/
def Obligations.StartUpOpensPorts : Prop :=
  ∀ s : State, s.phase = .startUp → (∀ r, s.startUp.polled.get r = true) →
    (∀ i, ¬((s.slot i).state = .identify ∧ (s.slot i).attempting = true)) →
    ∃ t, exec .startupEnd s = .next t ∧ t.phase = .running
      ∧ (∀ p, (s.port p).enabled = true → (s.port p).state = .starting → (t.port p).state = .idle)
      ∧ (∀ p, (s.port p).enabled = true → (s.port p).queue = [] → ∃ d rest, (t.port p).queue = ⟨.startup, .none, d, s.siteTime⟩ :: rest
          ∧ d.b0.toNat = (if s.recordValid then 0 else 1) + 2 * resetCode s.resetKind)
      ∧ (∀ c, isRaised s = false → s.emergency.input = false → (t.channel c).state = decidedState t c)
      ∧ t.fleet = s.fleet ∧ t.slots = s.slots ∧ RosterOnly { s with phase := t.phase } t
end

