-- ==== Sys2Proof/Laws/State.lean ====
section
/-! SUPPORT. The small laws of the state: reading a table after a write, and one lemma for every field under every update, so that no
later proof unfolds a record update. -/

namespace Sys2Proof

namespace Table

variable {α β : Type} {n : Nat}

@[simp] theorem get_set_self (t : Table α n) (i : Fin n) (x : α) : (t.set i x).get i = x := by
  simp [get, set]

theorem get_set_of_ne (t : Table α n) {i j : Fin n} (x : α) (h : i ≠ j) : (t.set i x).get j = t.get j := by
  have hv : i.val ≠ j.val := fun e => h (Fin.ext e)
  simp [get, set, hv]

theorem get_set (t : Table α n) (i j : Fin n) (x : α) : (t.set i x).get j = if i = j then x else t.get j := by
  by_cases h : i = j
  · subst h; simp
  · simp [get_set_of_ne t x h, h]

@[simp] theorem get_upd_self (t : Table α n) (i : Fin n) (f : α → α) : (t.upd i f).get i = f (t.get i) := by
  simp [upd]

theorem get_upd_of_ne (t : Table α n) {i j : Fin n} (f : α → α) (h : i ≠ j) : (t.upd i f).get j = t.get j := by
  simp [upd, get_set_of_ne t _ h]

theorem get_upd (t : Table α n) (i j : Fin n) (f : α → α) : (t.upd i f).get j = if i = j then f (t.get j) else t.get j := by
  by_cases h : i = j
  · subst h; simp
  · simp [get_upd_of_ne t f h, h]

@[simp] theorem get_map (f : α → β) (t : Table α n) (i : Fin n) : (t.map f).get i = f (t.get i) := by
  simp [get, map]

@[simp] theorem get_ofFn (f : Fin n → α) (i : Fin n) : (ofFn f).get i = f i := by
  simp [get, ofFn]

@[simp] theorem get_fill (x : α) (i : Fin n) : (fill x : Table α n).get i = x := by
  simp [get, fill]

/-- Tables that read the same at every index are the same. -/
theorem ext_get {t u : Table α n} (h : ∀ i, t.get i = u.get i) : t = u := by
  cases t with
  | mk tc ts =>
    cases u with
    | mk uc us =>
      have : tc = uc := by
        apply List.ext_getElem (by rw [ts, us])
        intro k h1 h2
        have := h ⟨k, by omega⟩
        simpa [get] using this
      subst this
      rfl

/-- A record of a table's list is read at some index. -/
theorem mem_cells {t : Table α n} {x : α} : x ∈ t.cells ↔ ∃ i, t.get i = x := by
  constructor
  · intro h
    obtain ⟨k, hk, rfl⟩ := List.getElem_of_mem h
    exact ⟨⟨k, by rw [← t.size]; exact hk⟩, by simp [get]⟩
  · rintro ⟨i, rfl⟩
    simp [get]

end Table

namespace Machine

/-! ## updUnit -/

@[simp] theorem State.updUnit_pending (s : State) (u : UnitNo) (f : UnitEntry → UnitEntry) : (s.updUnit u f).pending = s.pending := rfl
@[simp] theorem State.updUnit_phase (s : State) (u : UnitNo) (f : UnitEntry → UnitEntry) : (s.updUnit u f).phase = s.phase := rfl
@[simp] theorem State.updUnit_resetKind (s : State) (u : UnitNo) (f : UnitEntry → UnitEntry) : (s.updUnit u f).resetKind = s.resetKind := rfl
@[simp] theorem State.updUnit_straps (s : State) (u : UnitNo) (f : UnitEntry → UnitEntry) : (s.updUnit u f).straps = s.straps := rfl
@[simp] theorem State.updUnit_startUp (s : State) (u : UnitNo) (f : UnitEntry → UnitEntry) : (s.updUnit u f).startUp = s.startUp := rfl
@[simp] theorem State.updUnit_key (s : State) (u : UnitNo) (f : UnitEntry → UnitEntry) : (s.updUnit u f).key = s.key := rfl
@[simp] theorem State.updUnit_free (s : State) (u : UnitNo) (f : UnitEntry → UnitEntry) : (s.updUnit u f).free = s.free := rfl
@[simp] theorem State.updUnit_siteTime (s : State) (u : UnitNo) (f : UnitEntry → UnitEntry) : (s.updUnit u f).siteTime = s.siteTime := rfl
@[simp] theorem State.updUnit_recordValid (s : State) (u : UnitNo) (f : UnitEntry → UnitEntry) : (s.updUnit u f).recordValid = s.recordValid := rfl
@[simp] theorem State.updUnit_siteCode (s : State) (u : UnitNo) (f : UnitEntry → UnitEntry) : (s.updUnit u f).siteCode = s.siteCode := rfl
@[simp] theorem State.updUnit_fleet (s : State) (u : UnitNo) (f : UnitEntry → UnitEntry) : (s.updUnit u f).fleet = s.fleet.upd u f := rfl
@[simp] theorem State.updUnit_slots (s : State) (u : UnitNo) (f : UnitEntry → UnitEntry) : (s.updUnit u f).slots = s.slots := rfl
@[simp] theorem State.updUnit_racks (s : State) (u : UnitNo) (f : UnitEntry → UnitEntry) : (s.updUnit u f).racks = s.racks := rfl
@[simp] theorem State.updUnit_ready (s : State) (u : UnitNo) (f : UnitEntry → UnitEntry) : (s.updUnit u f).ready = s.ready := rfl
@[simp] theorem State.updUnit_armed (s : State) (u : UnitNo) (f : UnitEntry → UnitEntry) : (s.updUnit u f).armed = s.armed := rfl
@[simp] theorem State.updUnit_charge (s : State) (u : UnitNo) (f : UnitEntry → UnitEntry) : (s.updUnit u f).charge = s.charge := rfl
@[simp] theorem State.updUnit_issue (s : State) (u : UnitNo) (f : UnitEntry → UnitEntry) : (s.updUnit u f).issue = s.issue := rfl
@[simp] theorem State.updUnit_groups (s : State) (u : UnitNo) (f : UnitEntry → UnitEntry) : (s.updUnit u f).groups = s.groups := rfl
@[simp] theorem State.updUnit_tune (s : State) (u : UnitNo) (f : UnitEntry → UnitEntry) : (s.updUnit u f).tune = s.tune := rfl
@[simp] theorem State.updUnit_resync (s : State) (u : UnitNo) (f : UnitEntry → UnitEntry) : (s.updUnit u f).resync = s.resync := rfl
@[simp] theorem State.updUnit_channels (s : State) (u : UnitNo) (f : UnitEntry → UnitEntry) : (s.updUnit u f).channels = s.channels := rfl
@[simp] theorem State.updUnit_presence (s : State) (u : UnitNo) (f : UnitEntry → UnitEntry) : (s.updUnit u f).presence = s.presence := rfl
@[simp] theorem State.updUnit_links (s : State) (u : UnitNo) (f : UnitEntry → UnitEntry) : (s.updUnit u f).links = s.links := rfl
@[simp] theorem State.updUnit_mix (s : State) (u : UnitNo) (f : UnitEntry → UnitEntry) : (s.updUnit u f).mix = s.mix := rfl
@[simp] theorem State.updUnit_window (s : State) (u : UnitNo) (f : UnitEntry → UnitEntry) : (s.updUnit u f).window = s.window := rfl
@[simp] theorem State.updUnit_outNext (s : State) (u : UnitNo) (f : UnitEntry → UnitEntry) : (s.updUnit u f).outNext = s.outNext := rfl
@[simp] theorem State.updUnit_outNow (s : State) (u : UnitNo) (f : UnitEntry → UnitEntry) : (s.updUnit u f).outNow = s.outNow := rfl
@[simp] theorem State.updUnit_mem (s : State) (u : UnitNo) (f : UnitEntry → UnitEntry) : (s.updUnit u f).mem = s.mem := rfl
@[simp] theorem State.updUnit_blocks (s : State) (u : UnitNo) (f : UnitEntry → UnitEntry) : (s.updUnit u f).blocks = s.blocks := rfl
@[simp] theorem State.updUnit_directory (s : State) (u : UnitNo) (f : UnitEntry → UnitEntry) : (s.updUnit u f).directory = s.directory := rfl
@[simp] theorem State.updUnit_store (s : State) (u : UnitNo) (f : UnitEntry → UnitEntry) : (s.updUnit u f).store = s.store := rfl
@[simp] theorem State.updUnit_prot (s : State) (u : UnitNo) (f : UnitEntry → UnitEntry) : (s.updUnit u f).prot = s.prot := rfl
@[simp] theorem State.updUnit_path (s : State) (u : UnitNo) (f : UnitEntry → UnitEntry) : (s.updUnit u f).path = s.path := rfl
@[simp] theorem State.updUnit_players (s : State) (u : UnitNo) (f : UnitEntry → UnitEntry) : (s.updUnit u f).players = s.players := rfl
@[simp] theorem State.updUnit_emergency (s : State) (u : UnitNo) (f : UnitEntry → UnitEntry) : (s.updUnit u f).emergency = s.emergency := rfl
@[simp] theorem State.updUnit_desk (s : State) (u : UnitNo) (f : UnitEntry → UnitEntry) : (s.updUnit u f).desk = s.desk := rfl
@[simp] theorem State.updUnit_transmitter (s : State) (u : UnitNo) (f : UnitEntry → UnitEntry) : (s.updUnit u f).transmitter = s.transmitter := rfl
@[simp] theorem State.updUnit_operations (s : State) (u : UnitNo) (f : UnitEntry → UnitEntry) : (s.updUnit u f).operations = s.operations := rfl
theorem State.updUnit_unit (s : State) (u : UnitNo) (f : UnitEntry → UnitEntry) (k : UnitNo) :
    (s.updUnit u f).unit k = if u = k then f (s.unit k) else s.unit k := Table.get_upd ..
@[simp] theorem State.updUnit_unit_self (s : State) (u : UnitNo) (f : UnitEntry → UnitEntry) : (s.updUnit u f).unit u = f (s.unit u) := Table.get_upd_self ..
@[simp] theorem State.updUnit_slot (s : State) (u : UnitNo) (f : UnitEntry → UnitEntry) (k : SlotIx) : (s.updUnit u f).slot k = s.slot k := rfl
@[simp] theorem State.updUnit_rack (s : State) (u : UnitNo) (f : UnitEntry → UnitEntry) (k : RackNo) : (s.updUnit u f).rack k = s.rack k := rfl
@[simp] theorem State.updUnit_group (s : State) (u : UnitNo) (f : UnitEntry → UnitEntry) (k : GroupNo) : (s.updUnit u f).group k = s.group k := rfl
@[simp] theorem State.updUnit_channel (s : State) (u : UnitNo) (f : UnitEntry → UnitEntry) (k : ChanNo) : (s.updUnit u f).channel k = s.channel k := rfl
@[simp] theorem State.updUnit_player (s : State) (u : UnitNo) (f : UnitEntry → UnitEntry) (k : PlayerNo) : (s.updUnit u f).player k = s.player k := rfl
@[simp] theorem State.updUnit_port (s : State) (u : UnitNo) (f : UnitEntry → UnitEntry) (p' : PortId) : (s.updUnit u f).port p' = s.port p' := by cases p' <;> rfl

/-! ## updSlot -/

@[simp] theorem State.updSlot_pending (s : State) (i : SlotIx) (f : Slot → Slot) : (s.updSlot i f).pending = s.pending := rfl
@[simp] theorem State.updSlot_phase (s : State) (i : SlotIx) (f : Slot → Slot) : (s.updSlot i f).phase = s.phase := rfl
@[simp] theorem State.updSlot_resetKind (s : State) (i : SlotIx) (f : Slot → Slot) : (s.updSlot i f).resetKind = s.resetKind := rfl
@[simp] theorem State.updSlot_straps (s : State) (i : SlotIx) (f : Slot → Slot) : (s.updSlot i f).straps = s.straps := rfl
@[simp] theorem State.updSlot_startUp (s : State) (i : SlotIx) (f : Slot → Slot) : (s.updSlot i f).startUp = s.startUp := rfl
@[simp] theorem State.updSlot_key (s : State) (i : SlotIx) (f : Slot → Slot) : (s.updSlot i f).key = s.key := rfl
@[simp] theorem State.updSlot_free (s : State) (i : SlotIx) (f : Slot → Slot) : (s.updSlot i f).free = s.free := rfl
@[simp] theorem State.updSlot_siteTime (s : State) (i : SlotIx) (f : Slot → Slot) : (s.updSlot i f).siteTime = s.siteTime := rfl
@[simp] theorem State.updSlot_recordValid (s : State) (i : SlotIx) (f : Slot → Slot) : (s.updSlot i f).recordValid = s.recordValid := rfl
@[simp] theorem State.updSlot_siteCode (s : State) (i : SlotIx) (f : Slot → Slot) : (s.updSlot i f).siteCode = s.siteCode := rfl
@[simp] theorem State.updSlot_fleet (s : State) (i : SlotIx) (f : Slot → Slot) : (s.updSlot i f).fleet = s.fleet := rfl
@[simp] theorem State.updSlot_slots (s : State) (i : SlotIx) (f : Slot → Slot) : (s.updSlot i f).slots = s.slots.upd i f := rfl
@[simp] theorem State.updSlot_racks (s : State) (i : SlotIx) (f : Slot → Slot) : (s.updSlot i f).racks = s.racks := rfl
@[simp] theorem State.updSlot_ready (s : State) (i : SlotIx) (f : Slot → Slot) : (s.updSlot i f).ready = s.ready := rfl
@[simp] theorem State.updSlot_armed (s : State) (i : SlotIx) (f : Slot → Slot) : (s.updSlot i f).armed = s.armed := rfl
@[simp] theorem State.updSlot_charge (s : State) (i : SlotIx) (f : Slot → Slot) : (s.updSlot i f).charge = s.charge := rfl
@[simp] theorem State.updSlot_issue (s : State) (i : SlotIx) (f : Slot → Slot) : (s.updSlot i f).issue = s.issue := rfl
@[simp] theorem State.updSlot_groups (s : State) (i : SlotIx) (f : Slot → Slot) : (s.updSlot i f).groups = s.groups := rfl
@[simp] theorem State.updSlot_tune (s : State) (i : SlotIx) (f : Slot → Slot) : (s.updSlot i f).tune = s.tune := rfl
@[simp] theorem State.updSlot_resync (s : State) (i : SlotIx) (f : Slot → Slot) : (s.updSlot i f).resync = s.resync := rfl
@[simp] theorem State.updSlot_channels (s : State) (i : SlotIx) (f : Slot → Slot) : (s.updSlot i f).channels = s.channels := rfl
@[simp] theorem State.updSlot_presence (s : State) (i : SlotIx) (f : Slot → Slot) : (s.updSlot i f).presence = s.presence := rfl
@[simp] theorem State.updSlot_links (s : State) (i : SlotIx) (f : Slot → Slot) : (s.updSlot i f).links = s.links := rfl
@[simp] theorem State.updSlot_mix (s : State) (i : SlotIx) (f : Slot → Slot) : (s.updSlot i f).mix = s.mix := rfl
@[simp] theorem State.updSlot_window (s : State) (i : SlotIx) (f : Slot → Slot) : (s.updSlot i f).window = s.window := rfl
@[simp] theorem State.updSlot_outNext (s : State) (i : SlotIx) (f : Slot → Slot) : (s.updSlot i f).outNext = s.outNext := rfl
@[simp] theorem State.updSlot_outNow (s : State) (i : SlotIx) (f : Slot → Slot) : (s.updSlot i f).outNow = s.outNow := rfl
@[simp] theorem State.updSlot_mem (s : State) (i : SlotIx) (f : Slot → Slot) : (s.updSlot i f).mem = s.mem := rfl
@[simp] theorem State.updSlot_blocks (s : State) (i : SlotIx) (f : Slot → Slot) : (s.updSlot i f).blocks = s.blocks := rfl
@[simp] theorem State.updSlot_directory (s : State) (i : SlotIx) (f : Slot → Slot) : (s.updSlot i f).directory = s.directory := rfl
@[simp] theorem State.updSlot_store (s : State) (i : SlotIx) (f : Slot → Slot) : (s.updSlot i f).store = s.store := rfl
@[simp] theorem State.updSlot_prot (s : State) (i : SlotIx) (f : Slot → Slot) : (s.updSlot i f).prot = s.prot := rfl
@[simp] theorem State.updSlot_path (s : State) (i : SlotIx) (f : Slot → Slot) : (s.updSlot i f).path = s.path := rfl
@[simp] theorem State.updSlot_players (s : State) (i : SlotIx) (f : Slot → Slot) : (s.updSlot i f).players = s.players := rfl
@[simp] theorem State.updSlot_emergency (s : State) (i : SlotIx) (f : Slot → Slot) : (s.updSlot i f).emergency = s.emergency := rfl
@[simp] theorem State.updSlot_desk (s : State) (i : SlotIx) (f : Slot → Slot) : (s.updSlot i f).desk = s.desk := rfl
@[simp] theorem State.updSlot_transmitter (s : State) (i : SlotIx) (f : Slot → Slot) : (s.updSlot i f).transmitter = s.transmitter := rfl
@[simp] theorem State.updSlot_operations (s : State) (i : SlotIx) (f : Slot → Slot) : (s.updSlot i f).operations = s.operations := rfl
@[simp] theorem State.updSlot_unit (s : State) (i : SlotIx) (f : Slot → Slot) (k : UnitNo) : (s.updSlot i f).unit k = s.unit k := rfl
theorem State.updSlot_slot (s : State) (i : SlotIx) (f : Slot → Slot) (k : SlotIx) :
    (s.updSlot i f).slot k = if i = k then f (s.slot k) else s.slot k := Table.get_upd ..
@[simp] theorem State.updSlot_slot_self (s : State) (i : SlotIx) (f : Slot → Slot) : (s.updSlot i f).slot i = f (s.slot i) := Table.get_upd_self ..
@[simp] theorem State.updSlot_rack (s : State) (i : SlotIx) (f : Slot → Slot) (k : RackNo) : (s.updSlot i f).rack k = s.rack k := rfl
@[simp] theorem State.updSlot_group (s : State) (i : SlotIx) (f : Slot → Slot) (k : GroupNo) : (s.updSlot i f).group k = s.group k := rfl
@[simp] theorem State.updSlot_channel (s : State) (i : SlotIx) (f : Slot → Slot) (k : ChanNo) : (s.updSlot i f).channel k = s.channel k := rfl
@[simp] theorem State.updSlot_player (s : State) (i : SlotIx) (f : Slot → Slot) (k : PlayerNo) : (s.updSlot i f).player k = s.player k := rfl
@[simp] theorem State.updSlot_port (s : State) (i : SlotIx) (f : Slot → Slot) (p' : PortId) : (s.updSlot i f).port p' = s.port p' := by cases p' <;> rfl

/-! ## updRack -/

@[simp] theorem State.updRack_pending (s : State) (r : RackNo) (f : Rack → Rack) : (s.updRack r f).pending = s.pending := rfl
@[simp] theorem State.updRack_phase (s : State) (r : RackNo) (f : Rack → Rack) : (s.updRack r f).phase = s.phase := rfl
@[simp] theorem State.updRack_resetKind (s : State) (r : RackNo) (f : Rack → Rack) : (s.updRack r f).resetKind = s.resetKind := rfl
@[simp] theorem State.updRack_straps (s : State) (r : RackNo) (f : Rack → Rack) : (s.updRack r f).straps = s.straps := rfl
@[simp] theorem State.updRack_startUp (s : State) (r : RackNo) (f : Rack → Rack) : (s.updRack r f).startUp = s.startUp := rfl
@[simp] theorem State.updRack_key (s : State) (r : RackNo) (f : Rack → Rack) : (s.updRack r f).key = s.key := rfl
@[simp] theorem State.updRack_free (s : State) (r : RackNo) (f : Rack → Rack) : (s.updRack r f).free = s.free := rfl
@[simp] theorem State.updRack_siteTime (s : State) (r : RackNo) (f : Rack → Rack) : (s.updRack r f).siteTime = s.siteTime := rfl
@[simp] theorem State.updRack_recordValid (s : State) (r : RackNo) (f : Rack → Rack) : (s.updRack r f).recordValid = s.recordValid := rfl
@[simp] theorem State.updRack_siteCode (s : State) (r : RackNo) (f : Rack → Rack) : (s.updRack r f).siteCode = s.siteCode := rfl
@[simp] theorem State.updRack_fleet (s : State) (r : RackNo) (f : Rack → Rack) : (s.updRack r f).fleet = s.fleet := rfl
@[simp] theorem State.updRack_slots (s : State) (r : RackNo) (f : Rack → Rack) : (s.updRack r f).slots = s.slots := rfl
@[simp] theorem State.updRack_racks (s : State) (r : RackNo) (f : Rack → Rack) : (s.updRack r f).racks = s.racks.upd r f := rfl
@[simp] theorem State.updRack_ready (s : State) (r : RackNo) (f : Rack → Rack) : (s.updRack r f).ready = s.ready := rfl
@[simp] theorem State.updRack_armed (s : State) (r : RackNo) (f : Rack → Rack) : (s.updRack r f).armed = s.armed := rfl
@[simp] theorem State.updRack_charge (s : State) (r : RackNo) (f : Rack → Rack) : (s.updRack r f).charge = s.charge := rfl
@[simp] theorem State.updRack_issue (s : State) (r : RackNo) (f : Rack → Rack) : (s.updRack r f).issue = s.issue := rfl
@[simp] theorem State.updRack_groups (s : State) (r : RackNo) (f : Rack → Rack) : (s.updRack r f).groups = s.groups := rfl
@[simp] theorem State.updRack_tune (s : State) (r : RackNo) (f : Rack → Rack) : (s.updRack r f).tune = s.tune := rfl
@[simp] theorem State.updRack_resync (s : State) (r : RackNo) (f : Rack → Rack) : (s.updRack r f).resync = s.resync := rfl
@[simp] theorem State.updRack_channels (s : State) (r : RackNo) (f : Rack → Rack) : (s.updRack r f).channels = s.channels := rfl
@[simp] theorem State.updRack_presence (s : State) (r : RackNo) (f : Rack → Rack) : (s.updRack r f).presence = s.presence := rfl
@[simp] theorem State.updRack_links (s : State) (r : RackNo) (f : Rack → Rack) : (s.updRack r f).links = s.links := rfl
@[simp] theorem State.updRack_mix (s : State) (r : RackNo) (f : Rack → Rack) : (s.updRack r f).mix = s.mix := rfl
@[simp] theorem State.updRack_window (s : State) (r : RackNo) (f : Rack → Rack) : (s.updRack r f).window = s.window := rfl
@[simp] theorem State.updRack_outNext (s : State) (r : RackNo) (f : Rack → Rack) : (s.updRack r f).outNext = s.outNext := rfl
@[simp] theorem State.updRack_outNow (s : State) (r : RackNo) (f : Rack → Rack) : (s.updRack r f).outNow = s.outNow := rfl
@[simp] theorem State.updRack_mem (s : State) (r : RackNo) (f : Rack → Rack) : (s.updRack r f).mem = s.mem := rfl
@[simp] theorem State.updRack_blocks (s : State) (r : RackNo) (f : Rack → Rack) : (s.updRack r f).blocks = s.blocks := rfl
@[simp] theorem State.updRack_directory (s : State) (r : RackNo) (f : Rack → Rack) : (s.updRack r f).directory = s.directory := rfl
@[simp] theorem State.updRack_store (s : State) (r : RackNo) (f : Rack → Rack) : (s.updRack r f).store = s.store := rfl
@[simp] theorem State.updRack_prot (s : State) (r : RackNo) (f : Rack → Rack) : (s.updRack r f).prot = s.prot := rfl
@[simp] theorem State.updRack_path (s : State) (r : RackNo) (f : Rack → Rack) : (s.updRack r f).path = s.path := rfl
@[simp] theorem State.updRack_players (s : State) (r : RackNo) (f : Rack → Rack) : (s.updRack r f).players = s.players := rfl
@[simp] theorem State.updRack_emergency (s : State) (r : RackNo) (f : Rack → Rack) : (s.updRack r f).emergency = s.emergency := rfl
@[simp] theorem State.updRack_desk (s : State) (r : RackNo) (f : Rack → Rack) : (s.updRack r f).desk = s.desk := rfl
@[simp] theorem State.updRack_transmitter (s : State) (r : RackNo) (f : Rack → Rack) : (s.updRack r f).transmitter = s.transmitter := rfl
@[simp] theorem State.updRack_operations (s : State) (r : RackNo) (f : Rack → Rack) : (s.updRack r f).operations = s.operations := rfl
@[simp] theorem State.updRack_unit (s : State) (r : RackNo) (f : Rack → Rack) (k : UnitNo) : (s.updRack r f).unit k = s.unit k := rfl
@[simp] theorem State.updRack_slot (s : State) (r : RackNo) (f : Rack → Rack) (k : SlotIx) : (s.updRack r f).slot k = s.slot k := rfl
theorem State.updRack_rack (s : State) (r : RackNo) (f : Rack → Rack) (k : RackNo) :
    (s.updRack r f).rack k = if r = k then f (s.rack k) else s.rack k := Table.get_upd ..
@[simp] theorem State.updRack_rack_self (s : State) (r : RackNo) (f : Rack → Rack) : (s.updRack r f).rack r = f (s.rack r) := Table.get_upd_self ..
@[simp] theorem State.updRack_group (s : State) (r : RackNo) (f : Rack → Rack) (k : GroupNo) : (s.updRack r f).group k = s.group k := rfl
@[simp] theorem State.updRack_channel (s : State) (r : RackNo) (f : Rack → Rack) (k : ChanNo) : (s.updRack r f).channel k = s.channel k := rfl
@[simp] theorem State.updRack_player (s : State) (r : RackNo) (f : Rack → Rack) (k : PlayerNo) : (s.updRack r f).player k = s.player k := rfl
@[simp] theorem State.updRack_port (s : State) (r : RackNo) (f : Rack → Rack) (p' : PortId) : (s.updRack r f).port p' = s.port p' := by cases p' <;> rfl

/-! ## updGroup -/

@[simp] theorem State.updGroup_pending (s : State) (g : GroupNo) (f : Group → Group) : (s.updGroup g f).pending = s.pending := rfl
@[simp] theorem State.updGroup_phase (s : State) (g : GroupNo) (f : Group → Group) : (s.updGroup g f).phase = s.phase := rfl
@[simp] theorem State.updGroup_resetKind (s : State) (g : GroupNo) (f : Group → Group) : (s.updGroup g f).resetKind = s.resetKind := rfl
@[simp] theorem State.updGroup_straps (s : State) (g : GroupNo) (f : Group → Group) : (s.updGroup g f).straps = s.straps := rfl
@[simp] theorem State.updGroup_startUp (s : State) (g : GroupNo) (f : Group → Group) : (s.updGroup g f).startUp = s.startUp := rfl
@[simp] theorem State.updGroup_key (s : State) (g : GroupNo) (f : Group → Group) : (s.updGroup g f).key = s.key := rfl
@[simp] theorem State.updGroup_free (s : State) (g : GroupNo) (f : Group → Group) : (s.updGroup g f).free = s.free := rfl
@[simp] theorem State.updGroup_siteTime (s : State) (g : GroupNo) (f : Group → Group) : (s.updGroup g f).siteTime = s.siteTime := rfl
@[simp] theorem State.updGroup_recordValid (s : State) (g : GroupNo) (f : Group → Group) : (s.updGroup g f).recordValid = s.recordValid := rfl
@[simp] theorem State.updGroup_siteCode (s : State) (g : GroupNo) (f : Group → Group) : (s.updGroup g f).siteCode = s.siteCode := rfl
@[simp] theorem State.updGroup_fleet (s : State) (g : GroupNo) (f : Group → Group) : (s.updGroup g f).fleet = s.fleet := rfl
@[simp] theorem State.updGroup_slots (s : State) (g : GroupNo) (f : Group → Group) : (s.updGroup g f).slots = s.slots := rfl
@[simp] theorem State.updGroup_racks (s : State) (g : GroupNo) (f : Group → Group) : (s.updGroup g f).racks = s.racks := rfl
@[simp] theorem State.updGroup_ready (s : State) (g : GroupNo) (f : Group → Group) : (s.updGroup g f).ready = s.ready := rfl
@[simp] theorem State.updGroup_armed (s : State) (g : GroupNo) (f : Group → Group) : (s.updGroup g f).armed = s.armed := rfl
@[simp] theorem State.updGroup_charge (s : State) (g : GroupNo) (f : Group → Group) : (s.updGroup g f).charge = s.charge := rfl
@[simp] theorem State.updGroup_issue (s : State) (g : GroupNo) (f : Group → Group) : (s.updGroup g f).issue = s.issue := rfl
@[simp] theorem State.updGroup_groups (s : State) (g : GroupNo) (f : Group → Group) : (s.updGroup g f).groups = s.groups.upd g f := rfl
@[simp] theorem State.updGroup_tune (s : State) (g : GroupNo) (f : Group → Group) : (s.updGroup g f).tune = s.tune := rfl
@[simp] theorem State.updGroup_resync (s : State) (g : GroupNo) (f : Group → Group) : (s.updGroup g f).resync = s.resync := rfl
@[simp] theorem State.updGroup_channels (s : State) (g : GroupNo) (f : Group → Group) : (s.updGroup g f).channels = s.channels := rfl
@[simp] theorem State.updGroup_presence (s : State) (g : GroupNo) (f : Group → Group) : (s.updGroup g f).presence = s.presence := rfl
@[simp] theorem State.updGroup_links (s : State) (g : GroupNo) (f : Group → Group) : (s.updGroup g f).links = s.links := rfl
@[simp] theorem State.updGroup_mix (s : State) (g : GroupNo) (f : Group → Group) : (s.updGroup g f).mix = s.mix := rfl
@[simp] theorem State.updGroup_window (s : State) (g : GroupNo) (f : Group → Group) : (s.updGroup g f).window = s.window := rfl
@[simp] theorem State.updGroup_outNext (s : State) (g : GroupNo) (f : Group → Group) : (s.updGroup g f).outNext = s.outNext := rfl
@[simp] theorem State.updGroup_outNow (s : State) (g : GroupNo) (f : Group → Group) : (s.updGroup g f).outNow = s.outNow := rfl
@[simp] theorem State.updGroup_mem (s : State) (g : GroupNo) (f : Group → Group) : (s.updGroup g f).mem = s.mem := rfl
@[simp] theorem State.updGroup_blocks (s : State) (g : GroupNo) (f : Group → Group) : (s.updGroup g f).blocks = s.blocks := rfl
@[simp] theorem State.updGroup_directory (s : State) (g : GroupNo) (f : Group → Group) : (s.updGroup g f).directory = s.directory := rfl
@[simp] theorem State.updGroup_store (s : State) (g : GroupNo) (f : Group → Group) : (s.updGroup g f).store = s.store := rfl
@[simp] theorem State.updGroup_prot (s : State) (g : GroupNo) (f : Group → Group) : (s.updGroup g f).prot = s.prot := rfl
@[simp] theorem State.updGroup_path (s : State) (g : GroupNo) (f : Group → Group) : (s.updGroup g f).path = s.path := rfl
@[simp] theorem State.updGroup_players (s : State) (g : GroupNo) (f : Group → Group) : (s.updGroup g f).players = s.players := rfl
@[simp] theorem State.updGroup_emergency (s : State) (g : GroupNo) (f : Group → Group) : (s.updGroup g f).emergency = s.emergency := rfl
@[simp] theorem State.updGroup_desk (s : State) (g : GroupNo) (f : Group → Group) : (s.updGroup g f).desk = s.desk := rfl
@[simp] theorem State.updGroup_transmitter (s : State) (g : GroupNo) (f : Group → Group) : (s.updGroup g f).transmitter = s.transmitter := rfl
@[simp] theorem State.updGroup_operations (s : State) (g : GroupNo) (f : Group → Group) : (s.updGroup g f).operations = s.operations := rfl
@[simp] theorem State.updGroup_unit (s : State) (g : GroupNo) (f : Group → Group) (k : UnitNo) : (s.updGroup g f).unit k = s.unit k := rfl
@[simp] theorem State.updGroup_slot (s : State) (g : GroupNo) (f : Group → Group) (k : SlotIx) : (s.updGroup g f).slot k = s.slot k := rfl
@[simp] theorem State.updGroup_rack (s : State) (g : GroupNo) (f : Group → Group) (k : RackNo) : (s.updGroup g f).rack k = s.rack k := rfl
theorem State.updGroup_group (s : State) (g : GroupNo) (f : Group → Group) (k : GroupNo) :
    (s.updGroup g f).group k = if g = k then f (s.group k) else s.group k := Table.get_upd ..
@[simp] theorem State.updGroup_group_self (s : State) (g : GroupNo) (f : Group → Group) : (s.updGroup g f).group g = f (s.group g) := Table.get_upd_self ..
@[simp] theorem State.updGroup_channel (s : State) (g : GroupNo) (f : Group → Group) (k : ChanNo) : (s.updGroup g f).channel k = s.channel k := rfl
@[simp] theorem State.updGroup_player (s : State) (g : GroupNo) (f : Group → Group) (k : PlayerNo) : (s.updGroup g f).player k = s.player k := rfl
@[simp] theorem State.updGroup_port (s : State) (g : GroupNo) (f : Group → Group) (p' : PortId) : (s.updGroup g f).port p' = s.port p' := by cases p' <;> rfl

/-! ## updChannel -/

@[simp] theorem State.updChannel_pending (s : State) (c : ChanNo) (f : Channel → Channel) : (s.updChannel c f).pending = s.pending := rfl
@[simp] theorem State.updChannel_phase (s : State) (c : ChanNo) (f : Channel → Channel) : (s.updChannel c f).phase = s.phase := rfl
@[simp] theorem State.updChannel_resetKind (s : State) (c : ChanNo) (f : Channel → Channel) : (s.updChannel c f).resetKind = s.resetKind := rfl
@[simp] theorem State.updChannel_straps (s : State) (c : ChanNo) (f : Channel → Channel) : (s.updChannel c f).straps = s.straps := rfl
@[simp] theorem State.updChannel_startUp (s : State) (c : ChanNo) (f : Channel → Channel) : (s.updChannel c f).startUp = s.startUp := rfl
@[simp] theorem State.updChannel_key (s : State) (c : ChanNo) (f : Channel → Channel) : (s.updChannel c f).key = s.key := rfl
@[simp] theorem State.updChannel_free (s : State) (c : ChanNo) (f : Channel → Channel) : (s.updChannel c f).free = s.free := rfl
@[simp] theorem State.updChannel_siteTime (s : State) (c : ChanNo) (f : Channel → Channel) : (s.updChannel c f).siteTime = s.siteTime := rfl
@[simp] theorem State.updChannel_recordValid (s : State) (c : ChanNo) (f : Channel → Channel) : (s.updChannel c f).recordValid = s.recordValid := rfl
@[simp] theorem State.updChannel_siteCode (s : State) (c : ChanNo) (f : Channel → Channel) : (s.updChannel c f).siteCode = s.siteCode := rfl
@[simp] theorem State.updChannel_fleet (s : State) (c : ChanNo) (f : Channel → Channel) : (s.updChannel c f).fleet = s.fleet := rfl
@[simp] theorem State.updChannel_slots (s : State) (c : ChanNo) (f : Channel → Channel) : (s.updChannel c f).slots = s.slots := rfl
@[simp] theorem State.updChannel_racks (s : State) (c : ChanNo) (f : Channel → Channel) : (s.updChannel c f).racks = s.racks := rfl
@[simp] theorem State.updChannel_ready (s : State) (c : ChanNo) (f : Channel → Channel) : (s.updChannel c f).ready = s.ready := rfl
@[simp] theorem State.updChannel_armed (s : State) (c : ChanNo) (f : Channel → Channel) : (s.updChannel c f).armed = s.armed := rfl
@[simp] theorem State.updChannel_charge (s : State) (c : ChanNo) (f : Channel → Channel) : (s.updChannel c f).charge = s.charge := rfl
@[simp] theorem State.updChannel_issue (s : State) (c : ChanNo) (f : Channel → Channel) : (s.updChannel c f).issue = s.issue := rfl
@[simp] theorem State.updChannel_groups (s : State) (c : ChanNo) (f : Channel → Channel) : (s.updChannel c f).groups = s.groups := rfl
@[simp] theorem State.updChannel_tune (s : State) (c : ChanNo) (f : Channel → Channel) : (s.updChannel c f).tune = s.tune := rfl
@[simp] theorem State.updChannel_resync (s : State) (c : ChanNo) (f : Channel → Channel) : (s.updChannel c f).resync = s.resync := rfl
@[simp] theorem State.updChannel_channels (s : State) (c : ChanNo) (f : Channel → Channel) : (s.updChannel c f).channels = s.channels.upd c f := rfl
@[simp] theorem State.updChannel_presence (s : State) (c : ChanNo) (f : Channel → Channel) : (s.updChannel c f).presence = s.presence := rfl
@[simp] theorem State.updChannel_links (s : State) (c : ChanNo) (f : Channel → Channel) : (s.updChannel c f).links = s.links := rfl
@[simp] theorem State.updChannel_mix (s : State) (c : ChanNo) (f : Channel → Channel) : (s.updChannel c f).mix = s.mix := rfl
@[simp] theorem State.updChannel_window (s : State) (c : ChanNo) (f : Channel → Channel) : (s.updChannel c f).window = s.window := rfl
@[simp] theorem State.updChannel_outNext (s : State) (c : ChanNo) (f : Channel → Channel) : (s.updChannel c f).outNext = s.outNext := rfl
@[simp] theorem State.updChannel_outNow (s : State) (c : ChanNo) (f : Channel → Channel) : (s.updChannel c f).outNow = s.outNow := rfl
@[simp] theorem State.updChannel_mem (s : State) (c : ChanNo) (f : Channel → Channel) : (s.updChannel c f).mem = s.mem := rfl
@[simp] theorem State.updChannel_blocks (s : State) (c : ChanNo) (f : Channel → Channel) : (s.updChannel c f).blocks = s.blocks := rfl
@[simp] theorem State.updChannel_directory (s : State) (c : ChanNo) (f : Channel → Channel) : (s.updChannel c f).directory = s.directory := rfl
@[simp] theorem State.updChannel_store (s : State) (c : ChanNo) (f : Channel → Channel) : (s.updChannel c f).store = s.store := rfl
@[simp] theorem State.updChannel_prot (s : State) (c : ChanNo) (f : Channel → Channel) : (s.updChannel c f).prot = s.prot := rfl
@[simp] theorem State.updChannel_path (s : State) (c : ChanNo) (f : Channel → Channel) : (s.updChannel c f).path = s.path := rfl
@[simp] theorem State.updChannel_players (s : State) (c : ChanNo) (f : Channel → Channel) : (s.updChannel c f).players = s.players := rfl
@[simp] theorem State.updChannel_emergency (s : State) (c : ChanNo) (f : Channel → Channel) : (s.updChannel c f).emergency = s.emergency := rfl
@[simp] theorem State.updChannel_desk (s : State) (c : ChanNo) (f : Channel → Channel) : (s.updChannel c f).desk = s.desk := rfl
@[simp] theorem State.updChannel_transmitter (s : State) (c : ChanNo) (f : Channel → Channel) : (s.updChannel c f).transmitter = s.transmitter := rfl
@[simp] theorem State.updChannel_operations (s : State) (c : ChanNo) (f : Channel → Channel) : (s.updChannel c f).operations = s.operations := rfl
@[simp] theorem State.updChannel_unit (s : State) (c : ChanNo) (f : Channel → Channel) (k : UnitNo) : (s.updChannel c f).unit k = s.unit k := rfl
@[simp] theorem State.updChannel_slot (s : State) (c : ChanNo) (f : Channel → Channel) (k : SlotIx) : (s.updChannel c f).slot k = s.slot k := rfl
@[simp] theorem State.updChannel_rack (s : State) (c : ChanNo) (f : Channel → Channel) (k : RackNo) : (s.updChannel c f).rack k = s.rack k := rfl
@[simp] theorem State.updChannel_group (s : State) (c : ChanNo) (f : Channel → Channel) (k : GroupNo) : (s.updChannel c f).group k = s.group k := rfl
theorem State.updChannel_channel (s : State) (c : ChanNo) (f : Channel → Channel) (k : ChanNo) :
    (s.updChannel c f).channel k = if c = k then f (s.channel k) else s.channel k := Table.get_upd ..
@[simp] theorem State.updChannel_channel_self (s : State) (c : ChanNo) (f : Channel → Channel) : (s.updChannel c f).channel c = f (s.channel c) := Table.get_upd_self ..
@[simp] theorem State.updChannel_player (s : State) (c : ChanNo) (f : Channel → Channel) (k : PlayerNo) : (s.updChannel c f).player k = s.player k := rfl
@[simp] theorem State.updChannel_port (s : State) (c : ChanNo) (f : Channel → Channel) (p' : PortId) : (s.updChannel c f).port p' = s.port p' := by cases p' <;> rfl

/-! ## updMix -/

@[simp] theorem State.updMix_pending (s : State) (c : ChanNo) (f : Mix → Mix) : (s.updMix c f).pending = s.pending := rfl
@[simp] theorem State.updMix_phase (s : State) (c : ChanNo) (f : Mix → Mix) : (s.updMix c f).phase = s.phase := rfl
@[simp] theorem State.updMix_resetKind (s : State) (c : ChanNo) (f : Mix → Mix) : (s.updMix c f).resetKind = s.resetKind := rfl
@[simp] theorem State.updMix_straps (s : State) (c : ChanNo) (f : Mix → Mix) : (s.updMix c f).straps = s.straps := rfl
@[simp] theorem State.updMix_startUp (s : State) (c : ChanNo) (f : Mix → Mix) : (s.updMix c f).startUp = s.startUp := rfl
@[simp] theorem State.updMix_key (s : State) (c : ChanNo) (f : Mix → Mix) : (s.updMix c f).key = s.key := rfl
@[simp] theorem State.updMix_free (s : State) (c : ChanNo) (f : Mix → Mix) : (s.updMix c f).free = s.free := rfl
@[simp] theorem State.updMix_siteTime (s : State) (c : ChanNo) (f : Mix → Mix) : (s.updMix c f).siteTime = s.siteTime := rfl
@[simp] theorem State.updMix_recordValid (s : State) (c : ChanNo) (f : Mix → Mix) : (s.updMix c f).recordValid = s.recordValid := rfl
@[simp] theorem State.updMix_siteCode (s : State) (c : ChanNo) (f : Mix → Mix) : (s.updMix c f).siteCode = s.siteCode := rfl
@[simp] theorem State.updMix_fleet (s : State) (c : ChanNo) (f : Mix → Mix) : (s.updMix c f).fleet = s.fleet := rfl
@[simp] theorem State.updMix_slots (s : State) (c : ChanNo) (f : Mix → Mix) : (s.updMix c f).slots = s.slots := rfl
@[simp] theorem State.updMix_racks (s : State) (c : ChanNo) (f : Mix → Mix) : (s.updMix c f).racks = s.racks := rfl
@[simp] theorem State.updMix_ready (s : State) (c : ChanNo) (f : Mix → Mix) : (s.updMix c f).ready = s.ready := rfl
@[simp] theorem State.updMix_armed (s : State) (c : ChanNo) (f : Mix → Mix) : (s.updMix c f).armed = s.armed := rfl
@[simp] theorem State.updMix_charge (s : State) (c : ChanNo) (f : Mix → Mix) : (s.updMix c f).charge = s.charge := rfl
@[simp] theorem State.updMix_issue (s : State) (c : ChanNo) (f : Mix → Mix) : (s.updMix c f).issue = s.issue := rfl
@[simp] theorem State.updMix_groups (s : State) (c : ChanNo) (f : Mix → Mix) : (s.updMix c f).groups = s.groups := rfl
@[simp] theorem State.updMix_tune (s : State) (c : ChanNo) (f : Mix → Mix) : (s.updMix c f).tune = s.tune := rfl
@[simp] theorem State.updMix_resync (s : State) (c : ChanNo) (f : Mix → Mix) : (s.updMix c f).resync = s.resync := rfl
@[simp] theorem State.updMix_channels (s : State) (c : ChanNo) (f : Mix → Mix) : (s.updMix c f).channels = s.channels := rfl
@[simp] theorem State.updMix_presence (s : State) (c : ChanNo) (f : Mix → Mix) : (s.updMix c f).presence = s.presence := rfl
@[simp] theorem State.updMix_links (s : State) (c : ChanNo) (f : Mix → Mix) : (s.updMix c f).links = s.links := rfl
@[simp] theorem State.updMix_mix (s : State) (c : ChanNo) (f : Mix → Mix) : (s.updMix c f).mix = s.mix.upd c f := rfl
@[simp] theorem State.updMix_window (s : State) (c : ChanNo) (f : Mix → Mix) : (s.updMix c f).window = s.window := rfl
@[simp] theorem State.updMix_outNext (s : State) (c : ChanNo) (f : Mix → Mix) : (s.updMix c f).outNext = s.outNext := rfl
@[simp] theorem State.updMix_outNow (s : State) (c : ChanNo) (f : Mix → Mix) : (s.updMix c f).outNow = s.outNow := rfl
@[simp] theorem State.updMix_mem (s : State) (c : ChanNo) (f : Mix → Mix) : (s.updMix c f).mem = s.mem := rfl
@[simp] theorem State.updMix_blocks (s : State) (c : ChanNo) (f : Mix → Mix) : (s.updMix c f).blocks = s.blocks := rfl
@[simp] theorem State.updMix_directory (s : State) (c : ChanNo) (f : Mix → Mix) : (s.updMix c f).directory = s.directory := rfl
@[simp] theorem State.updMix_store (s : State) (c : ChanNo) (f : Mix → Mix) : (s.updMix c f).store = s.store := rfl
@[simp] theorem State.updMix_prot (s : State) (c : ChanNo) (f : Mix → Mix) : (s.updMix c f).prot = s.prot := rfl
@[simp] theorem State.updMix_path (s : State) (c : ChanNo) (f : Mix → Mix) : (s.updMix c f).path = s.path := rfl
@[simp] theorem State.updMix_players (s : State) (c : ChanNo) (f : Mix → Mix) : (s.updMix c f).players = s.players := rfl
@[simp] theorem State.updMix_emergency (s : State) (c : ChanNo) (f : Mix → Mix) : (s.updMix c f).emergency = s.emergency := rfl
@[simp] theorem State.updMix_desk (s : State) (c : ChanNo) (f : Mix → Mix) : (s.updMix c f).desk = s.desk := rfl
@[simp] theorem State.updMix_transmitter (s : State) (c : ChanNo) (f : Mix → Mix) : (s.updMix c f).transmitter = s.transmitter := rfl
@[simp] theorem State.updMix_operations (s : State) (c : ChanNo) (f : Mix → Mix) : (s.updMix c f).operations = s.operations := rfl
@[simp] theorem State.updMix_unit (s : State) (c : ChanNo) (f : Mix → Mix) (k : UnitNo) : (s.updMix c f).unit k = s.unit k := rfl
@[simp] theorem State.updMix_slot (s : State) (c : ChanNo) (f : Mix → Mix) (k : SlotIx) : (s.updMix c f).slot k = s.slot k := rfl
@[simp] theorem State.updMix_rack (s : State) (c : ChanNo) (f : Mix → Mix) (k : RackNo) : (s.updMix c f).rack k = s.rack k := rfl
@[simp] theorem State.updMix_group (s : State) (c : ChanNo) (f : Mix → Mix) (k : GroupNo) : (s.updMix c f).group k = s.group k := rfl
@[simp] theorem State.updMix_channel (s : State) (c : ChanNo) (f : Mix → Mix) (k : ChanNo) : (s.updMix c f).channel k = s.channel k := rfl
@[simp] theorem State.updMix_player (s : State) (c : ChanNo) (f : Mix → Mix) (k : PlayerNo) : (s.updMix c f).player k = s.player k := rfl
@[simp] theorem State.updMix_port (s : State) (c : ChanNo) (f : Mix → Mix) (p' : PortId) : (s.updMix c f).port p' = s.port p' := by cases p' <;> rfl

/-! ## updPlayer -/

@[simp] theorem State.updPlayer_pending (s : State) (p : PlayerNo) (f : Player → Player) : (s.updPlayer p f).pending = s.pending := rfl
@[simp] theorem State.updPlayer_phase (s : State) (p : PlayerNo) (f : Player → Player) : (s.updPlayer p f).phase = s.phase := rfl
@[simp] theorem State.updPlayer_resetKind (s : State) (p : PlayerNo) (f : Player → Player) : (s.updPlayer p f).resetKind = s.resetKind := rfl
@[simp] theorem State.updPlayer_straps (s : State) (p : PlayerNo) (f : Player → Player) : (s.updPlayer p f).straps = s.straps := rfl
@[simp] theorem State.updPlayer_startUp (s : State) (p : PlayerNo) (f : Player → Player) : (s.updPlayer p f).startUp = s.startUp := rfl
@[simp] theorem State.updPlayer_key (s : State) (p : PlayerNo) (f : Player → Player) : (s.updPlayer p f).key = s.key := rfl
@[simp] theorem State.updPlayer_free (s : State) (p : PlayerNo) (f : Player → Player) : (s.updPlayer p f).free = s.free := rfl
@[simp] theorem State.updPlayer_siteTime (s : State) (p : PlayerNo) (f : Player → Player) : (s.updPlayer p f).siteTime = s.siteTime := rfl
@[simp] theorem State.updPlayer_recordValid (s : State) (p : PlayerNo) (f : Player → Player) : (s.updPlayer p f).recordValid = s.recordValid := rfl
@[simp] theorem State.updPlayer_siteCode (s : State) (p : PlayerNo) (f : Player → Player) : (s.updPlayer p f).siteCode = s.siteCode := rfl
@[simp] theorem State.updPlayer_fleet (s : State) (p : PlayerNo) (f : Player → Player) : (s.updPlayer p f).fleet = s.fleet := rfl
@[simp] theorem State.updPlayer_slots (s : State) (p : PlayerNo) (f : Player → Player) : (s.updPlayer p f).slots = s.slots := rfl
@[simp] theorem State.updPlayer_racks (s : State) (p : PlayerNo) (f : Player → Player) : (s.updPlayer p f).racks = s.racks := rfl
@[simp] theorem State.updPlayer_ready (s : State) (p : PlayerNo) (f : Player → Player) : (s.updPlayer p f).ready = s.ready := rfl
@[simp] theorem State.updPlayer_armed (s : State) (p : PlayerNo) (f : Player → Player) : (s.updPlayer p f).armed = s.armed := rfl
@[simp] theorem State.updPlayer_charge (s : State) (p : PlayerNo) (f : Player → Player) : (s.updPlayer p f).charge = s.charge := rfl
@[simp] theorem State.updPlayer_issue (s : State) (p : PlayerNo) (f : Player → Player) : (s.updPlayer p f).issue = s.issue := rfl
@[simp] theorem State.updPlayer_groups (s : State) (p : PlayerNo) (f : Player → Player) : (s.updPlayer p f).groups = s.groups := rfl
@[simp] theorem State.updPlayer_tune (s : State) (p : PlayerNo) (f : Player → Player) : (s.updPlayer p f).tune = s.tune := rfl
@[simp] theorem State.updPlayer_resync (s : State) (p : PlayerNo) (f : Player → Player) : (s.updPlayer p f).resync = s.resync := rfl
@[simp] theorem State.updPlayer_channels (s : State) (p : PlayerNo) (f : Player → Player) : (s.updPlayer p f).channels = s.channels := rfl
@[simp] theorem State.updPlayer_presence (s : State) (p : PlayerNo) (f : Player → Player) : (s.updPlayer p f).presence = s.presence := rfl
@[simp] theorem State.updPlayer_links (s : State) (p : PlayerNo) (f : Player → Player) : (s.updPlayer p f).links = s.links := rfl
@[simp] theorem State.updPlayer_mix (s : State) (p : PlayerNo) (f : Player → Player) : (s.updPlayer p f).mix = s.mix := rfl
@[simp] theorem State.updPlayer_window (s : State) (p : PlayerNo) (f : Player → Player) : (s.updPlayer p f).window = s.window := rfl
@[simp] theorem State.updPlayer_outNext (s : State) (p : PlayerNo) (f : Player → Player) : (s.updPlayer p f).outNext = s.outNext := rfl
@[simp] theorem State.updPlayer_outNow (s : State) (p : PlayerNo) (f : Player → Player) : (s.updPlayer p f).outNow = s.outNow := rfl
@[simp] theorem State.updPlayer_mem (s : State) (p : PlayerNo) (f : Player → Player) : (s.updPlayer p f).mem = s.mem := rfl
@[simp] theorem State.updPlayer_blocks (s : State) (p : PlayerNo) (f : Player → Player) : (s.updPlayer p f).blocks = s.blocks := rfl
@[simp] theorem State.updPlayer_directory (s : State) (p : PlayerNo) (f : Player → Player) : (s.updPlayer p f).directory = s.directory := rfl
@[simp] theorem State.updPlayer_store (s : State) (p : PlayerNo) (f : Player → Player) : (s.updPlayer p f).store = s.store := rfl
@[simp] theorem State.updPlayer_prot (s : State) (p : PlayerNo) (f : Player → Player) : (s.updPlayer p f).prot = s.prot := rfl
@[simp] theorem State.updPlayer_path (s : State) (p : PlayerNo) (f : Player → Player) : (s.updPlayer p f).path = s.path := rfl
@[simp] theorem State.updPlayer_players (s : State) (p : PlayerNo) (f : Player → Player) : (s.updPlayer p f).players = s.players.upd p f := rfl
@[simp] theorem State.updPlayer_emergency (s : State) (p : PlayerNo) (f : Player → Player) : (s.updPlayer p f).emergency = s.emergency := rfl
@[simp] theorem State.updPlayer_desk (s : State) (p : PlayerNo) (f : Player → Player) : (s.updPlayer p f).desk = s.desk := rfl
@[simp] theorem State.updPlayer_transmitter (s : State) (p : PlayerNo) (f : Player → Player) : (s.updPlayer p f).transmitter = s.transmitter := rfl
@[simp] theorem State.updPlayer_operations (s : State) (p : PlayerNo) (f : Player → Player) : (s.updPlayer p f).operations = s.operations := rfl
@[simp] theorem State.updPlayer_unit (s : State) (p : PlayerNo) (f : Player → Player) (k : UnitNo) : (s.updPlayer p f).unit k = s.unit k := rfl
@[simp] theorem State.updPlayer_slot (s : State) (p : PlayerNo) (f : Player → Player) (k : SlotIx) : (s.updPlayer p f).slot k = s.slot k := rfl
@[simp] theorem State.updPlayer_rack (s : State) (p : PlayerNo) (f : Player → Player) (k : RackNo) : (s.updPlayer p f).rack k = s.rack k := rfl
@[simp] theorem State.updPlayer_group (s : State) (p : PlayerNo) (f : Player → Player) (k : GroupNo) : (s.updPlayer p f).group k = s.group k := rfl
@[simp] theorem State.updPlayer_channel (s : State) (p : PlayerNo) (f : Player → Player) (k : ChanNo) : (s.updPlayer p f).channel k = s.channel k := rfl
theorem State.updPlayer_player (s : State) (p : PlayerNo) (f : Player → Player) (k : PlayerNo) :
    (s.updPlayer p f).player k = if p = k then f (s.player k) else s.player k := Table.get_upd ..
@[simp] theorem State.updPlayer_player_self (s : State) (p : PlayerNo) (f : Player → Player) : (s.updPlayer p f).player p = f (s.player p) := Table.get_upd_self ..
@[simp] theorem State.updPlayer_port (s : State) (p : PlayerNo) (f : Player → Player) (p' : PortId) : (s.updPlayer p f).port p' = s.port p' := by cases p' <;> rfl

/-! ## updStore -/

@[simp] theorem State.updStore_pending (s : State) (f : Store → Store) : (s.updStore f).pending = s.pending := rfl
@[simp] theorem State.updStore_phase (s : State) (f : Store → Store) : (s.updStore f).phase = s.phase := rfl
@[simp] theorem State.updStore_resetKind (s : State) (f : Store → Store) : (s.updStore f).resetKind = s.resetKind := rfl
@[simp] theorem State.updStore_straps (s : State) (f : Store → Store) : (s.updStore f).straps = s.straps := rfl
@[simp] theorem State.updStore_startUp (s : State) (f : Store → Store) : (s.updStore f).startUp = s.startUp := rfl
@[simp] theorem State.updStore_key (s : State) (f : Store → Store) : (s.updStore f).key = s.key := rfl
@[simp] theorem State.updStore_free (s : State) (f : Store → Store) : (s.updStore f).free = s.free := rfl
@[simp] theorem State.updStore_siteTime (s : State) (f : Store → Store) : (s.updStore f).siteTime = s.siteTime := rfl
@[simp] theorem State.updStore_recordValid (s : State) (f : Store → Store) : (s.updStore f).recordValid = s.recordValid := rfl
@[simp] theorem State.updStore_siteCode (s : State) (f : Store → Store) : (s.updStore f).siteCode = s.siteCode := rfl
@[simp] theorem State.updStore_fleet (s : State) (f : Store → Store) : (s.updStore f).fleet = s.fleet := rfl
@[simp] theorem State.updStore_slots (s : State) (f : Store → Store) : (s.updStore f).slots = s.slots := rfl
@[simp] theorem State.updStore_racks (s : State) (f : Store → Store) : (s.updStore f).racks = s.racks := rfl
@[simp] theorem State.updStore_ready (s : State) (f : Store → Store) : (s.updStore f).ready = s.ready := rfl
@[simp] theorem State.updStore_armed (s : State) (f : Store → Store) : (s.updStore f).armed = s.armed := rfl
@[simp] theorem State.updStore_charge (s : State) (f : Store → Store) : (s.updStore f).charge = s.charge := rfl
@[simp] theorem State.updStore_issue (s : State) (f : Store → Store) : (s.updStore f).issue = s.issue := rfl
@[simp] theorem State.updStore_groups (s : State) (f : Store → Store) : (s.updStore f).groups = s.groups := rfl
@[simp] theorem State.updStore_tune (s : State) (f : Store → Store) : (s.updStore f).tune = s.tune := rfl
@[simp] theorem State.updStore_resync (s : State) (f : Store → Store) : (s.updStore f).resync = s.resync := rfl
@[simp] theorem State.updStore_channels (s : State) (f : Store → Store) : (s.updStore f).channels = s.channels := rfl
@[simp] theorem State.updStore_presence (s : State) (f : Store → Store) : (s.updStore f).presence = s.presence := rfl
@[simp] theorem State.updStore_links (s : State) (f : Store → Store) : (s.updStore f).links = s.links := rfl
@[simp] theorem State.updStore_mix (s : State) (f : Store → Store) : (s.updStore f).mix = s.mix := rfl
@[simp] theorem State.updStore_window (s : State) (f : Store → Store) : (s.updStore f).window = s.window := rfl
@[simp] theorem State.updStore_outNext (s : State) (f : Store → Store) : (s.updStore f).outNext = s.outNext := rfl
@[simp] theorem State.updStore_outNow (s : State) (f : Store → Store) : (s.updStore f).outNow = s.outNow := rfl
@[simp] theorem State.updStore_mem (s : State) (f : Store → Store) : (s.updStore f).mem = s.mem := rfl
@[simp] theorem State.updStore_blocks (s : State) (f : Store → Store) : (s.updStore f).blocks = s.blocks := rfl
@[simp] theorem State.updStore_directory (s : State) (f : Store → Store) : (s.updStore f).directory = s.directory := rfl
@[simp] theorem State.updStore_store (s : State) (f : Store → Store) : (s.updStore f).store = f s.store := rfl
@[simp] theorem State.updStore_prot (s : State) (f : Store → Store) : (s.updStore f).prot = s.prot := rfl
@[simp] theorem State.updStore_path (s : State) (f : Store → Store) : (s.updStore f).path = s.path := rfl
@[simp] theorem State.updStore_players (s : State) (f : Store → Store) : (s.updStore f).players = s.players := rfl
@[simp] theorem State.updStore_emergency (s : State) (f : Store → Store) : (s.updStore f).emergency = s.emergency := rfl
@[simp] theorem State.updStore_desk (s : State) (f : Store → Store) : (s.updStore f).desk = s.desk := rfl
@[simp] theorem State.updStore_transmitter (s : State) (f : Store → Store) : (s.updStore f).transmitter = s.transmitter := rfl
@[simp] theorem State.updStore_operations (s : State) (f : Store → Store) : (s.updStore f).operations = s.operations := rfl
@[simp] theorem State.updStore_unit (s : State) (f : Store → Store) (k : UnitNo) : (s.updStore f).unit k = s.unit k := rfl
@[simp] theorem State.updStore_slot (s : State) (f : Store → Store) (k : SlotIx) : (s.updStore f).slot k = s.slot k := rfl
@[simp] theorem State.updStore_rack (s : State) (f : Store → Store) (k : RackNo) : (s.updStore f).rack k = s.rack k := rfl
@[simp] theorem State.updStore_group (s : State) (f : Store → Store) (k : GroupNo) : (s.updStore f).group k = s.group k := rfl
@[simp] theorem State.updStore_channel (s : State) (f : Store → Store) (k : ChanNo) : (s.updStore f).channel k = s.channel k := rfl
@[simp] theorem State.updStore_player (s : State) (f : Store → Store) (k : PlayerNo) : (s.updStore f).player k = s.player k := rfl
@[simp] theorem State.updStore_port (s : State) (f : Store → Store) (p' : PortId) : (s.updStore f).port p' = s.port p' := by cases p' <;> rfl

/-! ## updPath -/

@[simp] theorem State.updPath_pending (s : State) (f : ReadPath → ReadPath) : (s.updPath f).pending = s.pending := rfl
@[simp] theorem State.updPath_phase (s : State) (f : ReadPath → ReadPath) : (s.updPath f).phase = s.phase := rfl
@[simp] theorem State.updPath_resetKind (s : State) (f : ReadPath → ReadPath) : (s.updPath f).resetKind = s.resetKind := rfl
@[simp] theorem State.updPath_straps (s : State) (f : ReadPath → ReadPath) : (s.updPath f).straps = s.straps := rfl
@[simp] theorem State.updPath_startUp (s : State) (f : ReadPath → ReadPath) : (s.updPath f).startUp = s.startUp := rfl
@[simp] theorem State.updPath_key (s : State) (f : ReadPath → ReadPath) : (s.updPath f).key = s.key := rfl
@[simp] theorem State.updPath_free (s : State) (f : ReadPath → ReadPath) : (s.updPath f).free = s.free := rfl
@[simp] theorem State.updPath_siteTime (s : State) (f : ReadPath → ReadPath) : (s.updPath f).siteTime = s.siteTime := rfl
@[simp] theorem State.updPath_recordValid (s : State) (f : ReadPath → ReadPath) : (s.updPath f).recordValid = s.recordValid := rfl
@[simp] theorem State.updPath_siteCode (s : State) (f : ReadPath → ReadPath) : (s.updPath f).siteCode = s.siteCode := rfl
@[simp] theorem State.updPath_fleet (s : State) (f : ReadPath → ReadPath) : (s.updPath f).fleet = s.fleet := rfl
@[simp] theorem State.updPath_slots (s : State) (f : ReadPath → ReadPath) : (s.updPath f).slots = s.slots := rfl
@[simp] theorem State.updPath_racks (s : State) (f : ReadPath → ReadPath) : (s.updPath f).racks = s.racks := rfl
@[simp] theorem State.updPath_ready (s : State) (f : ReadPath → ReadPath) : (s.updPath f).ready = s.ready := rfl
@[simp] theorem State.updPath_armed (s : State) (f : ReadPath → ReadPath) : (s.updPath f).armed = s.armed := rfl
@[simp] theorem State.updPath_charge (s : State) (f : ReadPath → ReadPath) : (s.updPath f).charge = s.charge := rfl
@[simp] theorem State.updPath_issue (s : State) (f : ReadPath → ReadPath) : (s.updPath f).issue = s.issue := rfl
@[simp] theorem State.updPath_groups (s : State) (f : ReadPath → ReadPath) : (s.updPath f).groups = s.groups := rfl
@[simp] theorem State.updPath_tune (s : State) (f : ReadPath → ReadPath) : (s.updPath f).tune = s.tune := rfl
@[simp] theorem State.updPath_resync (s : State) (f : ReadPath → ReadPath) : (s.updPath f).resync = s.resync := rfl
@[simp] theorem State.updPath_channels (s : State) (f : ReadPath → ReadPath) : (s.updPath f).channels = s.channels := rfl
@[simp] theorem State.updPath_presence (s : State) (f : ReadPath → ReadPath) : (s.updPath f).presence = s.presence := rfl
@[simp] theorem State.updPath_links (s : State) (f : ReadPath → ReadPath) : (s.updPath f).links = s.links := rfl
@[simp] theorem State.updPath_mix (s : State) (f : ReadPath → ReadPath) : (s.updPath f).mix = s.mix := rfl
@[simp] theorem State.updPath_window (s : State) (f : ReadPath → ReadPath) : (s.updPath f).window = s.window := rfl
@[simp] theorem State.updPath_outNext (s : State) (f : ReadPath → ReadPath) : (s.updPath f).outNext = s.outNext := rfl
@[simp] theorem State.updPath_outNow (s : State) (f : ReadPath → ReadPath) : (s.updPath f).outNow = s.outNow := rfl
@[simp] theorem State.updPath_mem (s : State) (f : ReadPath → ReadPath) : (s.updPath f).mem = s.mem := rfl
@[simp] theorem State.updPath_blocks (s : State) (f : ReadPath → ReadPath) : (s.updPath f).blocks = s.blocks := rfl
@[simp] theorem State.updPath_directory (s : State) (f : ReadPath → ReadPath) : (s.updPath f).directory = s.directory := rfl
@[simp] theorem State.updPath_store (s : State) (f : ReadPath → ReadPath) : (s.updPath f).store = s.store := rfl
@[simp] theorem State.updPath_prot (s : State) (f : ReadPath → ReadPath) : (s.updPath f).prot = s.prot := rfl
@[simp] theorem State.updPath_path (s : State) (f : ReadPath → ReadPath) : (s.updPath f).path = f s.path := rfl
@[simp] theorem State.updPath_players (s : State) (f : ReadPath → ReadPath) : (s.updPath f).players = s.players := rfl
@[simp] theorem State.updPath_emergency (s : State) (f : ReadPath → ReadPath) : (s.updPath f).emergency = s.emergency := rfl
@[simp] theorem State.updPath_desk (s : State) (f : ReadPath → ReadPath) : (s.updPath f).desk = s.desk := rfl
@[simp] theorem State.updPath_transmitter (s : State) (f : ReadPath → ReadPath) : (s.updPath f).transmitter = s.transmitter := rfl
@[simp] theorem State.updPath_operations (s : State) (f : ReadPath → ReadPath) : (s.updPath f).operations = s.operations := rfl
@[simp] theorem State.updPath_unit (s : State) (f : ReadPath → ReadPath) (k : UnitNo) : (s.updPath f).unit k = s.unit k := rfl
@[simp] theorem State.updPath_slot (s : State) (f : ReadPath → ReadPath) (k : SlotIx) : (s.updPath f).slot k = s.slot k := rfl
@[simp] theorem State.updPath_rack (s : State) (f : ReadPath → ReadPath) (k : RackNo) : (s.updPath f).rack k = s.rack k := rfl
@[simp] theorem State.updPath_group (s : State) (f : ReadPath → ReadPath) (k : GroupNo) : (s.updPath f).group k = s.group k := rfl
@[simp] theorem State.updPath_channel (s : State) (f : ReadPath → ReadPath) (k : ChanNo) : (s.updPath f).channel k = s.channel k := rfl
@[simp] theorem State.updPath_player (s : State) (f : ReadPath → ReadPath) (k : PlayerNo) : (s.updPath f).player k = s.player k := rfl
@[simp] theorem State.updPath_port (s : State) (f : ReadPath → ReadPath) (p' : PortId) : (s.updPath f).port p' = s.port p' := by cases p' <;> rfl

/-! ## updPort -/

@[simp] theorem State.updPort_pending (s : State) (p : PortId) (f : Port → Port) : (s.updPort p f).pending = s.pending := by cases p <;> rfl
@[simp] theorem State.updPort_phase (s : State) (p : PortId) (f : Port → Port) : (s.updPort p f).phase = s.phase := by cases p <;> rfl
@[simp] theorem State.updPort_resetKind (s : State) (p : PortId) (f : Port → Port) : (s.updPort p f).resetKind = s.resetKind := by cases p <;> rfl
@[simp] theorem State.updPort_straps (s : State) (p : PortId) (f : Port → Port) : (s.updPort p f).straps = s.straps := by cases p <;> rfl
@[simp] theorem State.updPort_startUp (s : State) (p : PortId) (f : Port → Port) : (s.updPort p f).startUp = s.startUp := by cases p <;> rfl
@[simp] theorem State.updPort_key (s : State) (p : PortId) (f : Port → Port) : (s.updPort p f).key = s.key := by cases p <;> rfl
@[simp] theorem State.updPort_free (s : State) (p : PortId) (f : Port → Port) : (s.updPort p f).free = s.free := by cases p <;> rfl
@[simp] theorem State.updPort_siteTime (s : State) (p : PortId) (f : Port → Port) : (s.updPort p f).siteTime = s.siteTime := by cases p <;> rfl
@[simp] theorem State.updPort_recordValid (s : State) (p : PortId) (f : Port → Port) : (s.updPort p f).recordValid = s.recordValid := by cases p <;> rfl
@[simp] theorem State.updPort_siteCode (s : State) (p : PortId) (f : Port → Port) : (s.updPort p f).siteCode = s.siteCode := by cases p <;> rfl
@[simp] theorem State.updPort_fleet (s : State) (p : PortId) (f : Port → Port) : (s.updPort p f).fleet = s.fleet := by cases p <;> rfl
@[simp] theorem State.updPort_slots (s : State) (p : PortId) (f : Port → Port) : (s.updPort p f).slots = s.slots := by cases p <;> rfl
@[simp] theorem State.updPort_racks (s : State) (p : PortId) (f : Port → Port) : (s.updPort p f).racks = s.racks := by cases p <;> rfl
@[simp] theorem State.updPort_ready (s : State) (p : PortId) (f : Port → Port) : (s.updPort p f).ready = s.ready := by cases p <;> rfl
@[simp] theorem State.updPort_armed (s : State) (p : PortId) (f : Port → Port) : (s.updPort p f).armed = s.armed := by cases p <;> rfl
@[simp] theorem State.updPort_charge (s : State) (p : PortId) (f : Port → Port) : (s.updPort p f).charge = s.charge := by cases p <;> rfl
@[simp] theorem State.updPort_issue (s : State) (p : PortId) (f : Port → Port) : (s.updPort p f).issue = s.issue := by cases p <;> rfl
@[simp] theorem State.updPort_groups (s : State) (p : PortId) (f : Port → Port) : (s.updPort p f).groups = s.groups := by cases p <;> rfl
@[simp] theorem State.updPort_tune (s : State) (p : PortId) (f : Port → Port) : (s.updPort p f).tune = s.tune := by cases p <;> rfl
@[simp] theorem State.updPort_resync (s : State) (p : PortId) (f : Port → Port) : (s.updPort p f).resync = s.resync := by cases p <;> rfl
@[simp] theorem State.updPort_channels (s : State) (p : PortId) (f : Port → Port) : (s.updPort p f).channels = s.channels := by cases p <;> rfl
@[simp] theorem State.updPort_presence (s : State) (p : PortId) (f : Port → Port) : (s.updPort p f).presence = s.presence := by cases p <;> rfl
@[simp] theorem State.updPort_links (s : State) (p : PortId) (f : Port → Port) : (s.updPort p f).links = s.links := by cases p <;> rfl
@[simp] theorem State.updPort_mix (s : State) (p : PortId) (f : Port → Port) : (s.updPort p f).mix = s.mix := by cases p <;> rfl
@[simp] theorem State.updPort_window (s : State) (p : PortId) (f : Port → Port) : (s.updPort p f).window = s.window := by cases p <;> rfl
@[simp] theorem State.updPort_outNext (s : State) (p : PortId) (f : Port → Port) : (s.updPort p f).outNext = s.outNext := by cases p <;> rfl
@[simp] theorem State.updPort_outNow (s : State) (p : PortId) (f : Port → Port) : (s.updPort p f).outNow = s.outNow := by cases p <;> rfl
@[simp] theorem State.updPort_mem (s : State) (p : PortId) (f : Port → Port) : (s.updPort p f).mem = s.mem := by cases p <;> rfl
@[simp] theorem State.updPort_blocks (s : State) (p : PortId) (f : Port → Port) : (s.updPort p f).blocks = s.blocks := by cases p <;> rfl
@[simp] theorem State.updPort_directory (s : State) (p : PortId) (f : Port → Port) : (s.updPort p f).directory = s.directory := by cases p <;> rfl
@[simp] theorem State.updPort_store (s : State) (p : PortId) (f : Port → Port) : (s.updPort p f).store = s.store := by cases p <;> rfl
@[simp] theorem State.updPort_prot (s : State) (p : PortId) (f : Port → Port) : (s.updPort p f).prot = s.prot := by cases p <;> rfl
@[simp] theorem State.updPort_path (s : State) (p : PortId) (f : Port → Port) : (s.updPort p f).path = s.path := by cases p <;> rfl
@[simp] theorem State.updPort_players (s : State) (p : PortId) (f : Port → Port) : (s.updPort p f).players = s.players := by cases p <;> rfl
@[simp] theorem State.updPort_emergency (s : State) (p : PortId) (f : Port → Port) : (s.updPort p f).emergency = s.emergency := by cases p <;> rfl
@[simp] theorem State.updPort_unit (s : State) (p : PortId) (f : Port → Port) (k : UnitNo) : (s.updPort p f).unit k = s.unit k := by cases p <;> rfl
@[simp] theorem State.updPort_slot (s : State) (p : PortId) (f : Port → Port) (k : SlotIx) : (s.updPort p f).slot k = s.slot k := by cases p <;> rfl
@[simp] theorem State.updPort_rack (s : State) (p : PortId) (f : Port → Port) (k : RackNo) : (s.updPort p f).rack k = s.rack k := by cases p <;> rfl
@[simp] theorem State.updPort_group (s : State) (p : PortId) (f : Port → Port) (k : GroupNo) : (s.updPort p f).group k = s.group k := by cases p <;> rfl
@[simp] theorem State.updPort_channel (s : State) (p : PortId) (f : Port → Port) (k : ChanNo) : (s.updPort p f).channel k = s.channel k := by cases p <;> rfl
@[simp] theorem State.updPort_player (s : State) (p : PortId) (f : Port → Port) (k : PlayerNo) : (s.updPort p f).player k = s.player k := by cases p <;> rfl
/-! ## eachPort -/

@[simp] theorem State.eachPort_pending (s : State) (f : Port → Port) : (s.eachPort f).pending = s.pending := rfl
@[simp] theorem State.eachPort_phase (s : State) (f : Port → Port) : (s.eachPort f).phase = s.phase := rfl
@[simp] theorem State.eachPort_resetKind (s : State) (f : Port → Port) : (s.eachPort f).resetKind = s.resetKind := rfl
@[simp] theorem State.eachPort_straps (s : State) (f : Port → Port) : (s.eachPort f).straps = s.straps := rfl
@[simp] theorem State.eachPort_startUp (s : State) (f : Port → Port) : (s.eachPort f).startUp = s.startUp := rfl
@[simp] theorem State.eachPort_key (s : State) (f : Port → Port) : (s.eachPort f).key = s.key := rfl
@[simp] theorem State.eachPort_free (s : State) (f : Port → Port) : (s.eachPort f).free = s.free := rfl
@[simp] theorem State.eachPort_siteTime (s : State) (f : Port → Port) : (s.eachPort f).siteTime = s.siteTime := rfl
@[simp] theorem State.eachPort_recordValid (s : State) (f : Port → Port) : (s.eachPort f).recordValid = s.recordValid := rfl
@[simp] theorem State.eachPort_siteCode (s : State) (f : Port → Port) : (s.eachPort f).siteCode = s.siteCode := rfl
@[simp] theorem State.eachPort_fleet (s : State) (f : Port → Port) : (s.eachPort f).fleet = s.fleet := rfl
@[simp] theorem State.eachPort_slots (s : State) (f : Port → Port) : (s.eachPort f).slots = s.slots := rfl
@[simp] theorem State.eachPort_racks (s : State) (f : Port → Port) : (s.eachPort f).racks = s.racks := rfl
@[simp] theorem State.eachPort_ready (s : State) (f : Port → Port) : (s.eachPort f).ready = s.ready := rfl
@[simp] theorem State.eachPort_armed (s : State) (f : Port → Port) : (s.eachPort f).armed = s.armed := rfl
@[simp] theorem State.eachPort_charge (s : State) (f : Port → Port) : (s.eachPort f).charge = s.charge := rfl
@[simp] theorem State.eachPort_issue (s : State) (f : Port → Port) : (s.eachPort f).issue = s.issue := rfl
@[simp] theorem State.eachPort_groups (s : State) (f : Port → Port) : (s.eachPort f).groups = s.groups := rfl
@[simp] theorem State.eachPort_tune (s : State) (f : Port → Port) : (s.eachPort f).tune = s.tune := rfl
@[simp] theorem State.eachPort_resync (s : State) (f : Port → Port) : (s.eachPort f).resync = s.resync := rfl
@[simp] theorem State.eachPort_channels (s : State) (f : Port → Port) : (s.eachPort f).channels = s.channels := rfl
@[simp] theorem State.eachPort_presence (s : State) (f : Port → Port) : (s.eachPort f).presence = s.presence := rfl
@[simp] theorem State.eachPort_links (s : State) (f : Port → Port) : (s.eachPort f).links = s.links := rfl
@[simp] theorem State.eachPort_mix (s : State) (f : Port → Port) : (s.eachPort f).mix = s.mix := rfl
@[simp] theorem State.eachPort_window (s : State) (f : Port → Port) : (s.eachPort f).window = s.window := rfl
@[simp] theorem State.eachPort_outNext (s : State) (f : Port → Port) : (s.eachPort f).outNext = s.outNext := rfl
@[simp] theorem State.eachPort_outNow (s : State) (f : Port → Port) : (s.eachPort f).outNow = s.outNow := rfl
@[simp] theorem State.eachPort_mem (s : State) (f : Port → Port) : (s.eachPort f).mem = s.mem := rfl
@[simp] theorem State.eachPort_blocks (s : State) (f : Port → Port) : (s.eachPort f).blocks = s.blocks := rfl
@[simp] theorem State.eachPort_directory (s : State) (f : Port → Port) : (s.eachPort f).directory = s.directory := rfl
@[simp] theorem State.eachPort_store (s : State) (f : Port → Port) : (s.eachPort f).store = s.store := rfl
@[simp] theorem State.eachPort_prot (s : State) (f : Port → Port) : (s.eachPort f).prot = s.prot := rfl
@[simp] theorem State.eachPort_path (s : State) (f : Port → Port) : (s.eachPort f).path = s.path := rfl
@[simp] theorem State.eachPort_players (s : State) (f : Port → Port) : (s.eachPort f).players = s.players := rfl
@[simp] theorem State.eachPort_emergency (s : State) (f : Port → Port) : (s.eachPort f).emergency = s.emergency := rfl
@[simp] theorem State.eachPort_unit (s : State) (f : Port → Port) (k : UnitNo) : (s.eachPort f).unit k = s.unit k := rfl
@[simp] theorem State.eachPort_slot (s : State) (f : Port → Port) (k : SlotIx) : (s.eachPort f).slot k = s.slot k := rfl
@[simp] theorem State.eachPort_rack (s : State) (f : Port → Port) (k : RackNo) : (s.eachPort f).rack k = s.rack k := rfl
@[simp] theorem State.eachPort_group (s : State) (f : Port → Port) (k : GroupNo) : (s.eachPort f).group k = s.group k := rfl
@[simp] theorem State.eachPort_channel (s : State) (f : Port → Port) (k : ChanNo) : (s.eachPort f).channel k = s.channel k := rfl
@[simp] theorem State.eachPort_player (s : State) (f : Port → Port) (k : PlayerNo) : (s.eachPort f).player k = s.player k := rfl

theorem State.updPort_port (s : State) (p : PortId) (f : Port → Port) (p' : PortId) :
    (s.updPort p f).port p' = if p = p' then f (s.port p') else s.port p' := by
  cases p <;> cases p' <;> rfl
@[simp] theorem State.updPort_port_self (s : State) (p : PortId) (f : Port → Port) : (s.updPort p f).port p = f (s.port p) := by
  cases p <;> rfl
@[simp] theorem State.eachPort_port (s : State) (f : Port → Port) (p : PortId) : (s.eachPort f).port p = f (s.port p) := by
  cases p <;> rfl

end Machine

end Sys2Proof
end

