-- ==== Sys2Proof/Laws/Budget.lean ====
section
/-! SUPPORT. What the budget arbiter's operations do to the granted sum (03 R49, R52 to R57). -/

namespace Sys2Proof.Machine

@[simp] theorem sumGrants_nil : sumGrants [] = 0 := rfl

@[simp] theorem sumGrants_cons (g : Grant) (gs : List Grant) : sumGrants (g :: gs) = g.current + sumGrants gs := by
  simp [sumGrants]

@[simp] theorem sumGrants_append (gs hs : List Grant) : sumGrants (gs ++ hs) = sumGrants gs + sumGrants hs := by
  simp [sumGrants]

@[simp] theorem sumGrants_reverse (gs : List Grant) : sumGrants gs.reverse = sumGrants gs := by
  induction gs with
  | nil => rfl
  | cons g rest ih => simp [ih, Nat.add_comm]

theorem sumGrants_filter (p : Grant → Bool) (gs : List Grant) : sumGrants (gs.filter p) ≤ sumGrants gs := by
  induction gs with
  | nil => simp
  | cons g rest ih =>
    by_cases h : p g = true
    · rw [List.filter_cons_of_pos h]; simp; omega
    · rw [List.filter_cons_of_neg h]; simp; omega

/-- The grants kept by a revocation fit the budget (03 R57). -/
theorem fitGrants_fit (budget : Nat) (gs : List Grant) : sumGrants (fitGrants budget gs) ≤ budget := by
  induction gs with
  | nil => simp [fitGrants]
  | cons g rest ih =>
    unfold fitGrants
    split
    · assumption
    · exact ih

theorem keptGrants_fit (budget : Nat) (gs : List Grant) : sumGrants (keptGrants budget gs) ≤ budget := by
  simpa [keptGrants] using fitGrants_fit budget gs.reverse

/-- Driving a slot's outputs leaves the arbiters alone. -/
@[simp] theorem drive_racks (i : SlotIx) (s : State) : (drive i s).racks = s.racks := rfl

@[simp] theorem changeSlot_racks (i : SlotIx) (f : Slot → Slot) (s : State) : (changeSlot i f s).racks = s.racks := rfl

end Sys2Proof.Machine
end

