-- ==== Sys2Proof/Laws/Frames.lean ====
section
/-! SUPPORT. What the operations of the player pool and of the channel plan leave alone, said once: everything outside the channels, the mix
items, the players, the store's own record, the read path, emergency control and the ports' queues. -/

namespace Sys2Proof.Machine

/-- The fields that no operation of the pool or the plan changes are the same in both states. -/
structure PlanFrame (s t : State) : Prop where
  pending : t.pending = s.pending
  phase : t.phase = s.phase
  resetKind : t.resetKind = s.resetKind
  straps : t.straps = s.straps
  startUp : t.startUp = s.startUp
  key : t.key = s.key
  free : t.free = s.free
  siteTime : t.siteTime = s.siteTime
  recordValid : t.recordValid = s.recordValid
  siteCode : t.siteCode = s.siteCode
  fleet : t.fleet = s.fleet
  slots : t.slots = s.slots
  racks : t.racks = s.racks
  ready : t.ready = s.ready
  armed : t.armed = s.armed
  charge : t.charge = s.charge
  issue : t.issue = s.issue
  groups : t.groups = s.groups
  tune : t.tune = s.tune
  resync : t.resync = s.resync
  presence : t.presence = s.presence
  links : t.links = s.links
  window : t.window = s.window
  outNext : t.outNext = s.outNext
  outNow : t.outNow = s.outNow
  mem : t.mem = s.mem
  blocks : t.blocks = s.blocks
  directory : t.directory = s.directory
  prot : t.prot = s.prot

theorem PlanFrame.refl (s : State) : PlanFrame s s := by constructor <;> rfl

theorem PlanFrame.trans {s t u : State} (h : PlanFrame s t) (k : PlanFrame t u) : PlanFrame s u :=
  { pending := k.pending.trans h.pending,
    phase := k.phase.trans h.phase,
    resetKind := k.resetKind.trans h.resetKind,
    straps := k.straps.trans h.straps,
    startUp := k.startUp.trans h.startUp,
    key := k.key.trans h.key,
    free := k.free.trans h.free,
    siteTime := k.siteTime.trans h.siteTime,
    recordValid := k.recordValid.trans h.recordValid,
    siteCode := k.siteCode.trans h.siteCode,
    fleet := k.fleet.trans h.fleet,
    slots := k.slots.trans h.slots,
    racks := k.racks.trans h.racks,
    ready := k.ready.trans h.ready,
    armed := k.armed.trans h.armed,
    charge := k.charge.trans h.charge,
    issue := k.issue.trans h.issue,
    groups := k.groups.trans h.groups,
    tune := k.tune.trans h.tune,
    resync := k.resync.trans h.resync,
    presence := k.presence.trans h.presence,
    links := k.links.trans h.links,
    window := k.window.trans h.window,
    outNext := k.outNext.trans h.outNext,
    outNow := k.outNow.trans h.outNow,
    mem := k.mem.trans h.mem,
    blocks := k.blocks.trans h.blocks,
    directory := k.directory.trans h.directory,
    prot := k.prot.trans h.prot }

/-- A fold of steps that each keep the frame keeps it. -/
theorem PlanFrame.foldl {α : Type} (f : State → α → State) (h : ∀ s a, PlanFrame s (f s a)) (l : List α) (s : State) :
    PlanFrame s (l.foldl f s) := by
  induction l generalizing s with
  | nil => exact PlanFrame.refl s
  | cons a rest ih => exact (h s a).trans (ih (f s a))

theorem queueNotice_frame (k : NoticeKind) (j : Subject) (d : Detail) (s : State) : PlanFrame s (queueNotice k j d s) := by
  constructor <;> simp [queueNotice]

theorem updPlayer_frame (p : PlayerNo) (f : Player → Player) (s : State) : PlanFrame s (s.updPlayer p f) := by
  constructor <;> rfl

theorem updPath_frame (f : ReadPath → ReadPath) (s : State) : PlanFrame s (s.updPath f) := by
  constructor <;> rfl

theorem updStore_frame (f : Store → Store) (s : State) : PlanFrame s (s.updStore f) := by
  constructor <;> rfl

theorem updMix_frame (c : ChanNo) (f : Mix → Mix) (s : State) : PlanFrame s (s.updMix c f) := by
  constructor <;> rfl

theorem updChannel_frame (c : ChanNo) (f : Channel → Channel) (s : State) : PlanFrame s (s.updChannel c f) := by
  constructor <;> rfl

theorem setHoldPlayer_frame (v : Option PlayerNo) (cs : List ChanNo) (s : State) : PlanFrame s (setHoldPlayer v cs s) := by
  constructor <;> rfl

theorem setAssigned_frame (c : ChanNo) (v : Option PlayerNo) (s : State) : PlanFrame s (setAssigned c v s) := by
  constructor <;> rfl

theorem meetReads_frame (s : State) : PlanFrame s (meetReads s) := by
  unfold meetReads
  split
  · exact updStore_frame _ _
  · exact PlanFrame.refl s

theorem placeRead_frame (p : PlayerNo) (s : State) : PlanFrame s (placeRead p s) := by
  unfold placeRead
  split
  · exact (updPlayer_frame _ _ _).trans (meetReads_frame _)
  · exact PlanFrame.refl s

theorem allocate_frame (p : PlayerNo) (clip : Nat) (o : Owner) (loops : Nat) (cs : List ChanNo) (s : State) :
    PlanFrame s (allocate p clip o loops cs s) := by
  unfold allocate
  dsimp only
  split
  · exact ((updPlayer_frame _ _ _).trans (setHoldPlayer_frame _ _ _)).trans (placeRead_frame _ _)
  · exact (updPlayer_frame _ _ _).trans (placeRead_frame _ _)

theorem clearPlayer_frame (p : PlayerNo) (s : State) : PlanFrame s (clearPlayer p s) := by
  unfold clearPlayer
  dsimp only
  split
  · exact ((updPath_frame _ _).trans (setHoldPlayer_frame _ _ _)).trans (updPlayer_frame _ _ _)
  · exact (updPath_frame _ _).trans (updPlayer_frame _ _ _)

theorem offerRounds_frame (n : Nat) (s : State) : PlanFrame s (offerRounds n s) := by
  induction n generalizing s with
  | zero => exact PlanFrame.refl s
  | succ n ih =>
    unfold offerRounds
    split
    · exact (allocate_frame ..).trans (ih _)
    · exact PlanFrame.refl s

theorem offer_frame (s : State) : PlanFrame s (offer s) := offerRounds_frame 6 s

theorem endPlay_frame (p : PlayerNo) (e : PlayEnd) (s : State) : PlanFrame s (endPlay p e s) := by
  unfold endPlay
  dsimp only
  split
  · exact ((clearPlayer_frame p s).trans (queueNotice_frame ..)).trans (offer_frame _)
  · exact (clearPlayer_frame p s).trans (offer_frame _)

theorem requestHold_frame (c : ChanNo) (clip : Nat) (s : State) : PlanFrame s (requestHold c clip s) := by
  unfold requestHold
  split
  · exact (updPlayer_frame _ _ _).trans (setHoldPlayer_frame _ _ _)
  · split
    · split
      · exact allocate_frame ..
      · exact PlanFrame.refl s
    · exact PlanFrame.refl s

theorem leaveHold_frame (c : ChanNo) (s : State) : PlanFrame s (leaveHold c s) := by
  unfold leaveHold
  split
  · exact PlanFrame.refl s
  · dsimp only
    split
    · exact ((updPlayer_frame _ _ _).trans (setHoldPlayer_frame _ _ _)).trans (endPlay_frame _ _ _)
    · exact (updPlayer_frame _ _ _).trans (setHoldPlayer_frame _ _ _)

theorem assignTo_frame (c : ChanNo) (v : Option PlayerNo) (s : State) : PlanFrame s (assignTo c v s) := by
  unfold assignTo
  split
  · exact (setAssigned_frame _ _ _).trans (updPlayer_frame _ _ _)
  · exact setAssigned_frame _ _ _

theorem assignEmergency_frame (c : ChanNo) (s : State) : PlanFrame s (assignEmergency c s) := assignTo_frame _ _ _

theorem unassignEmergency_frame (c : ChanNo) (s : State) : PlanFrame s (unassignEmergency c s) := by
  unfold unassignEmergency
  split
  · exact (updPlayer_frame _ _ _).trans (setAssigned_frame _ _ _)
  · exact PlanFrame.refl s

theorem enterHold_frame (c : ChanNo) (s : State) : PlanFrame s (enterHold c s) := by
  unfold enterHold
  dsimp only
  split
  · exact (queueNotice_frame ..).trans (requestHold_frame _ _ _)
  · exact queueNotice_frame ..

theorem leaveState_frame (c : ChanNo) (old new : ChannelState) (s : State) : PlanFrame s (leaveState c old new s) := by
  unfold leaveState
  split
  · exact leaveHold_frame c s
  · split
    · exact (unassignEmergency_frame c s).trans (updMix_frame _ _ _)
    · exact PlanFrame.refl s

theorem enterState_frame (c : ChanNo) (old new : ChannelState) (s : State) : PlanFrame s (enterState c old new s) := by
  unfold enterState
  split
  · exact enterHold_frame c s
  · split
    · exact (assignEmergency_frame c s).trans (updMix_frame _ _ _)
    · exact PlanFrame.refl s

theorem decideChannel_frame (c : ChanNo) (s : State) : PlanFrame s (decideChannel c s) :=
  ((updChannel_frame _ _ _).trans (leaveState_frame _ _ _ _)).trans (enterState_frame _ _ _ _)

theorem decideEach_frame (cs : List ChanNo) (s : State) : PlanFrame s (decideEach cs s) :=
  PlanFrame.foldl (fun t c => decideChannel c t) (fun t c => decideChannel_frame c t) cs s

theorem decideAll_frame (s : State) : PlanFrame s (decideAll s) := decideEach_frame _ s

theorem bindChannel_frame (c : ChanNo) (g : GroupNo) (s : State) : PlanFrame s (bindChannel c g s) :=
  (updChannel_frame _ _ _).trans (decideChannel_frame _ _)

theorem unbindChannel_frame (c : ChanNo) (s : State) : PlanFrame s (unbindChannel c s) :=
  (updChannel_frame _ _ _).trans (decideChannel_frame _ _)

/-! ## What the pool and the plan leave of a channel's record -/

/-- A channel keeps its configured fields and bound group. -/
def SameConfigs (s t : State) : Prop :=
  ∀ c, (t.channel c).config = (s.channel c).config ∧ (t.channel c).group = (s.channel c).group

theorem SameConfigs.refl (s : State) : SameConfigs s s := fun _ => ⟨rfl, rfl⟩

theorem SameConfigs.trans {s t u : State} (h : SameConfigs s t) (k : SameConfigs t u) : SameConfigs s u :=
  fun c => ⟨(k c).1.trans (h c).1, (k c).2.trans (h c).2⟩

/-- A channel keeps its configured fields, bound group, state and primary. -/
def SameDecisions (s t : State) : Prop :=
  ∀ c, (t.channel c).config = (s.channel c).config ∧ (t.channel c).group = (s.channel c).group
    ∧ (t.channel c).state = (s.channel c).state ∧ (t.channel c).primary = (s.channel c).primary

theorem SameDecisions.refl (s : State) : SameDecisions s s := fun _ => ⟨rfl, rfl, rfl, rfl⟩

theorem SameDecisions.trans {s t u : State} (h : SameDecisions s t) (k : SameDecisions t u) : SameDecisions s u :=
  fun c => ⟨(k c).1.trans (h c).1, (k c).2.1.trans (h c).2.1, (k c).2.2.1.trans (h c).2.2.1, (k c).2.2.2.trans (h c).2.2.2⟩

theorem SameDecisions.of_channels {s t : State} (h : t.channels = s.channels) : SameDecisions s t := by
  intro c
  simp [State.channel, h]

theorem queueNotice_channels (k : NoticeKind) (j : Subject) (d : Detail) (s : State) :
    (queueNotice k j d s).channels = s.channels := by simp [queueNotice]

theorem setHoldPlayer_decisions (v : Option PlayerNo) (cs : List ChanNo) (s : State) : SameDecisions s (setHoldPlayer v cs s) := by
  induction cs generalizing s with
  | nil => exact SameDecisions.refl s
  | cons c rest ih =>
    have h : SameDecisions s { s with channels := s.channels.upd c fun ch => { ch with holdPlayer := v } } := by
      intro k
      simp only [State.channel, Table.get_upd]
      split
      · simp
      · simp
    exact h.trans (ih { s with channels := s.channels.upd c fun ch => { ch with holdPlayer := v } })

theorem meetReads_channels (s : State) : (meetReads s).channels = s.channels := by
  unfold meetReads; split <;> rfl

theorem placeRead_channels (p : PlayerNo) (s : State) : (placeRead p s).channels = s.channels := by
  unfold placeRead
  split
  · rw [meetReads_channels]; rfl
  · rfl

theorem allocate_decisions (p : PlayerNo) (clip : Nat) (o : Owner) (loops : Nat) (cs : List ChanNo) (s : State) :
    SameDecisions s (allocate p clip o loops cs s) := by
  unfold allocate
  dsimp only
  split
  · exact ((SameDecisions.of_channels rfl).trans (setHoldPlayer_decisions _ _ _)).trans
      (SameDecisions.of_channels (placeRead_channels _ _))
  · exact SameDecisions.of_channels (by rw [placeRead_channels]; rfl)

theorem clearPlayer_decisions (p : PlayerNo) (s : State) : SameDecisions s (clearPlayer p s) := by
  unfold clearPlayer
  dsimp only
  split
  · exact ((SameDecisions.of_channels rfl).trans (setHoldPlayer_decisions _ _ _)).trans (SameDecisions.of_channels rfl)
  · exact SameDecisions.of_channels rfl

theorem offerRounds_decisions (n : Nat) (s : State) : SameDecisions s (offerRounds n s) := by
  induction n generalizing s with
  | zero => exact SameDecisions.refl s
  | succ n ih =>
    unfold offerRounds
    split
    · exact (allocate_decisions _ _ _ _ _ _).trans (ih _)
    · exact SameDecisions.refl s

theorem offer_decisions (s : State) : SameDecisions s (offer s) := offerRounds_decisions 6 s

theorem endPlay_decisions (p : PlayerNo) (e : PlayEnd) (s : State) : SameDecisions s (endPlay p e s) := by
  unfold endPlay
  dsimp only
  split
  · exact ((clearPlayer_decisions p s).trans (SameDecisions.of_channels (queueNotice_channels ..))).trans (offer_decisions _)
  · exact (clearPlayer_decisions p s).trans (offer_decisions _)

theorem requestHold_decisions (c : ChanNo) (clip : Nat) (s : State) : SameDecisions s (requestHold c clip s) := by
  unfold requestHold
  split
  · exact (SameDecisions.of_channels rfl).trans (setHoldPlayer_decisions _ _ _)
  · split
    · split
      · exact allocate_decisions _ _ _ _ _ _
      · exact SameDecisions.refl s
    · exact SameDecisions.refl s

theorem leavePlayer_decisions (p : PlayerNo) (c : ChanNo) (s : State) : SameDecisions s (leavePlayer p c s) :=
  SameDecisions.of_channels rfl

theorem leaveHold_decisions (c : ChanNo) (s : State) : SameDecisions s (leaveHold c s) := by
  unfold leaveHold
  split
  · exact SameDecisions.refl s
  · next p _ =>
    have h := (leavePlayer_decisions p c s).trans (setHoldPlayer_decisions none [c] (leavePlayer p c s))
    dsimp only
    split
    · exact h.trans (endPlay_decisions _ _ _)
    · exact h

theorem assignTo_channels (c : ChanNo) (v : Option PlayerNo) (s : State) : (assignTo c v s).channels = s.channels := by
  unfold assignTo; split <;> rfl

theorem unassignEmergency_channels (c : ChanNo) (s : State) : (unassignEmergency c s).channels = s.channels := by
  unfold unassignEmergency; split <;> rfl

theorem enterHold_decisions (c : ChanNo) (s : State) : SameDecisions s (enterHold c s) := by
  unfold enterHold
  dsimp only
  split
  · exact (SameDecisions.of_channels (queueNotice_channels ..)).trans (requestHold_decisions _ _ _)
  · exact SameDecisions.of_channels (queueNotice_channels ..)

theorem leaveState_decisions (c : ChanNo) (old new : ChannelState) (s : State) : SameDecisions s (leaveState c old new s) := by
  unfold leaveState
  split
  · exact leaveHold_decisions c s
  · split
    · exact SameDecisions.of_channels (by simp [unassignEmergency_channels])
    · exact SameDecisions.refl s

theorem enterState_decisions (c : ChanNo) (old new : ChannelState) (s : State) : SameDecisions s (enterState c old new s) := by
  unfold enterState
  split
  · exact enterHold_decisions c s
  · split
    · exact SameDecisions.of_channels (by simp [assignEmergency, assignTo_channels])
    · exact SameDecisions.refl s

/-- A decision gives its channel the state of 06 R112 and its primary, and leaves every other channel's decision and every channel's
configuration as they were. -/
theorem decideChannel_channel (c : ChanNo) (s : State) (k : ChanNo) :
    ((decideChannel c s).channel k).config = (s.channel k).config
      ∧ ((decideChannel c s).channel k).group = (s.channel k).group
      ∧ ((decideChannel c s).channel k).state = (if c = k then decidedState s c else (s.channel k).state)
      ∧ ((decideChannel c s).channel k).primary = (if c = k then primarySource s c else (s.channel k).primary) := by
  have h := (leaveState_decisions c (s.channel c).state (decidedState s c)
    (s.updChannel c fun ch => { ch with state := decidedState s c, primary := primarySource s c })).trans
      (enterState_decisions c (s.channel c).state (decidedState s c) _)
  obtain ⟨h1, h2, h3, h4⟩ := h k
  unfold decideChannel
  refine ⟨h1.trans ?_, h2.trans ?_, h3.trans ?_, h4.trans ?_⟩ <;> rw [State.updChannel_channel] <;> split <;> rfl

end Sys2Proof.Machine
end

