-- ==== Sys2Proof/Laws/Channels.lean ====
section
/-! SUPPORT. What a channel's change of hold clip leaves alone (06 R104 step 4). -/

namespace Sys2Proof.Machine

theorem setHoldClip_frame (c : ChanNo) (v : Option Nat) (s : State) : PlanFrame s (setHoldClip c v s) := updChannel_frame _ _ _

theorem setHoldClip_channel (c : ChanNo) (v : Option Nat) (s : State) (k : ChanNo) :
    (setHoldClip c v s).channel k =
      if c = k then { s.channel k with config := { (s.channel k).config with holdClip := v } } else s.channel k := by
  simp [setHoldClip, State.updChannel_channel]

theorem leaveForNewClip_frame (c : ChanNo) (s : State) : PlanFrame s (leaveForNewClip c s) :=
  ((setHoldClip_frame _ _ _).trans (leaveHold_frame _ _)).trans (setHoldClip_frame _ _ _)

/-- A channel that leaves its player for a new clip keeps its configuration, the new clip included, and every channel its decision. -/
theorem leaveForNewClip_decisions (c : ChanNo) (s : State) : SameDecisions s (leaveForNewClip c s) := by
  intro k
  have h := leaveHold_decisions c (setHoldClip c none s) k
  simp only [setHoldClip_channel] at h
  simp only [leaveForNewClip, setHoldClip_channel]
  by_cases hk : c = k
  · subst hk; simp_all
  · simp_all

theorem reholdChannel_frame (c : ChanNo) (before : Channel) (s : State) : PlanFrame s (reholdChannel c before s) := by
  unfold reholdChannel
  dsimp only
  split
  · split
    · exact (leaveForNewClip_frame _ _).trans (requestHold_frame _ _ _)
    · exact leaveForNewClip_frame _ _
  · exact PlanFrame.refl s

theorem reholdChannel_decisions (c : ChanNo) (before : Channel) (s : State) : SameDecisions s (reholdChannel c before s) := by
  unfold reholdChannel
  dsimp only
  split
  · split
    · exact (leaveForNewClip_decisions _ _).trans (requestHold_decisions _ _ _)
    · exact leaveForNewClip_decisions _ _
  · exact SameDecisions.refl s

end Sys2Proof.Machine
end

