-- ==== Sys2Proof/Laws/Memory.lean ====
section
/-! SUPPORT. The laws of the flash array: every operation keeps the canonical form, a byte reads back as written, and every other byte
reads as before. -/

namespace Sys2Proof.Machine

/-- Every listed address lies above a bound. -/
def aboveAll (a : Nat) (m : List Host.Cell) : Bool := m.all fun c => decide (a < c.1)

theorem wf_cons (c : Host.Cell) (m : List Host.Cell) :
    Memory.wf (c :: m) = true ↔ c.2 ≠ 0xFF ∧ aboveAll c.1 m = true ∧ Memory.wf m = true := by
  simp [Memory.wf, aboveAll, and_assoc]

theorem byteAt_of_above {a : Nat} {m : List Host.Cell} (h : aboveAll a m = true) : byteAt m a = 0xFF := by
  induction m with
  | nil => rfl
  | cons c rest ih =>
    simp only [aboveAll, List.all_cons, Bool.and_eq_true, decide_eq_true_eq] at h
    have hne : c.1 ≠ a := by omega
    simp only [byteAt, hne, if_false]
    exact ih (by simpa [aboveAll] using h.2)

theorem aboveAll_mono {a b : Nat} {m : List Host.Cell} (hab : a ≤ b) (h : aboveAll b m = true) : aboveAll a m = true := by
  simp only [aboveAll, List.all_eq_true, decide_eq_true_eq] at h ⊢
  intro c hc
  have := h c hc
  omega

theorem aboveAll_putByte {a b : Nat} {v : Byte} {m : List Host.Cell} (hb : a < b) (h : aboveAll a m = true) :
    aboveAll a (putByte m b v) = true := by
  induction m with
  | nil => unfold putByte; split <;> simp [aboveAll, hb]
  | cons c rest ih =>
    simp only [aboveAll, List.all_cons, Bool.and_eq_true, decide_eq_true_eq] at h
    have hr : aboveAll a rest = true := by simpa [aboveAll] using h.2
    have ih' : rest.all (fun c => decide (a < c.1)) = true → (putByte rest b v).all (fun c => decide (a < c.1)) = true :=
      fun hx => ih hx
    unfold putByte
    split
    · simp only [aboveAll, List.all_cons, Bool.and_eq_true, decide_eq_true_eq]
      exact ⟨h.1, ih' h.2⟩
    · split
      · split
        · exact hr
        · simp only [aboveAll, List.all_cons, Bool.and_eq_true, decide_eq_true_eq]
          exact ⟨hb, h.2⟩
      · split <;> simp only [aboveAll, List.all_cons, Bool.and_eq_true, decide_eq_true_eq]
        · exact h
        · exact ⟨hb, h⟩

/-- A write keeps the canonical form. -/
theorem wf_putByte {m : List Host.Cell} (a : Nat) (v : Byte) (h : Memory.wf m = true) : Memory.wf (putByte m a v) = true := by
  induction m with
  | nil =>
    unfold putByte
    split
    · rfl
    · next hv => exact (wf_cons _ _).2 ⟨hv, rfl, rfl⟩
  | cons c rest ih =>
    obtain ⟨h1, h2, h3⟩ := (wf_cons c rest).1 h
    unfold putByte
    split
    · next hlt => exact (wf_cons _ _).2 ⟨h1, aboveAll_putByte hlt h2, ih h3⟩
    · split
      · next heq =>
        split
        · exact h3
        · next hv => exact (wf_cons _ _).2 ⟨hv, by rw [← heq]; exact h2, h3⟩
      · split
        · exact h
        · next hlt hne hv =>
          refine (wf_cons _ _).2 ⟨hv, ?_, h⟩
          simp only [aboveAll, List.all_cons, Bool.and_eq_true, decide_eq_true_eq]
          refine ⟨by omega, ?_⟩
          have : aboveAll a rest = true := aboveAll_mono (b := c.1) (by omega) h2
          simpa [aboveAll] using this

/-- A byte reads back as written, and every other byte reads as before. -/
theorem byteAt_putByte {m : List Host.Cell} (a : Nat) (v : Byte) (b : Nat) (h : Memory.wf m = true) :
    byteAt (putByte m a v) b = if b = a then v else byteAt m b := by
  induction m with
  | nil =>
    unfold putByte
    split
    · next hv => subst hv; by_cases hb : b = a <;> simp [byteAt, hb]
    · by_cases hb : a = b
      · subst hb; simp [byteAt]
      · simp [byteAt, hb, Ne.symm hb]
  | cons c rest ih =>
    obtain ⟨h1, h2, h3⟩ := (wf_cons c rest).1 h
    unfold putByte
    split
    · next hlt =>
      by_cases hcb : c.1 = b
      · have : b ≠ a := by omega
        simp [byteAt, hcb, this]
      · simp only [byteAt, hcb, if_false]; exact ih h3
    · split
      · next heq =>
        by_cases hb : b = a
        · subst hb
          split
          · next hv => rw [byteAt_of_above (by rw [← heq]; exact h2)]; simp [hv]
          · simp [byteAt]
        · have hcb : ¬ c.1 = b := by omega
          have hab : ¬ a = b := fun e => hb e.symm
          split <;> simp [byteAt, hcb, hab]
      · next hlt hne =>
        have habove : byteAt (c :: rest) a = 0xFF := by
          simp only [byteAt, hne, if_false]
          exact byteAt_of_above (aboveAll_mono (b := c.1) (by omega) h2)
        by_cases hb : b = a
        · subst hb
          split
          · next hv => rw [habove]; simp [hv]
          · simp [byteAt]
        · have hab : ¬ a = b := fun e => hb e.symm
          split
          · simp
          · simp [byteAt, hab]

theorem aboveAll_filter {a : Nat} {m : List Host.Cell} (p : Host.Cell → Bool) (h : aboveAll a m = true) :
    aboveAll a (m.filter p) = true := by
  simp only [aboveAll, List.all_eq_true, List.mem_filter] at h ⊢
  exact fun c hc => h c hc.1

/-- Taking cells away keeps the canonical form. -/
theorem wf_filter {m : List Host.Cell} (p : Host.Cell → Bool) (h : Memory.wf m = true) : Memory.wf (m.filter p) = true := by
  induction m with
  | nil => rfl
  | cons c rest ih =>
    obtain ⟨h1, h2, h3⟩ := (wf_cons c rest).1 h
    by_cases hp : p c = true
    · rw [List.filter_cons_of_pos hp]; exact (wf_cons _ _).2 ⟨h1, aboveAll_filter p h2, ih h3⟩
    · rw [List.filter_cons_of_neg hp]; exact ih h3

/-- What a byte reads after cells were taken away by their addresses alone. -/
theorem byteAt_filter {m : List Host.Cell} (q : Nat → Bool) (a : Nat) :
    byteAt (m.filter fun c => q c.1) a = if q a then byteAt m a else 0xFF := by
  induction m with
  | nil => simp [byteAt]
  | cons c rest ih =>
    by_cases hc : c.1 = a
    · by_cases hq : q a = true
      · rw [List.filter_cons_of_pos (by simpa [hc] using hq)]; simp [byteAt, hc, hq]
      · rw [List.filter_cons_of_neg (by simpa [hc] using hq), ih]; simp [hq]
    · by_cases hq : q c.1 = true
      · rw [List.filter_cons_of_pos (by exact hq)]; simp [byteAt, hc, ih]
      · rw [List.filter_cons_of_neg (by exact hq), ih]; simp [byteAt, hc]

theorem wf_programByte {m : List Host.Cell} (a : Nat) (v : Byte) (h : Memory.wf m = true) :
    Memory.wf (programByte m a v) = true := wf_putByte _ _ h

theorem wf_programCells {m : List Host.Cell} (cells : List (Nat × Byte)) (h : Memory.wf m = true) :
    Memory.wf (programCells m cells) = true := by
  unfold programCells
  induction cells generalizing m with
  | nil => exact h
  | cons c rest ih => exact ih (wf_programByte c.1 c.2 h)

theorem wf_failBytes (old : List Host.Cell) {m : List Host.Cell} (cells faults : List (Nat × Byte)) (h : Memory.wf m = true) :
    Memory.wf (failBytes old m cells faults) = true := by
  unfold failBytes
  induction faults generalizing m with
  | nil => exact h
  | cons f rest ih =>
    refine ih ?_
    dsimp only
    split
    · exact wf_putByte _ _ h
    · exact h

theorem wf_programPartly {m : List Host.Cell} (k : Nat) (cells : List (Nat × Byte)) (h : Memory.wf m = true) :
    Memory.wf (programPartly k m cells) = true := wf_programCells _ h

theorem wf_eraseBytes {m : List Host.Cell} (b : BlockNo) (h : Memory.wf m = true) : Memory.wf (eraseBytes m b) = true :=
  wf_filter _ h

theorem wf_leaveBytes {m : List Host.Cell} (b : BlockNo) (left : List (Nat × Byte)) (h : Memory.wf m = true) :
    Memory.wf (leaveBytes m b left) = true := by
  unfold leaveBytes
  induction left generalizing m with
  | nil => exact h
  | cons f rest ih =>
    refine ih ?_
    dsimp only
    split
    · exact wf_putByte _ _ h
    · exact h

theorem wf_erasePartly {m : List Host.Cell} (k : Nat) (b : BlockNo) (h : Memory.wf m = true) :
    Memory.wf (erasePartly k m b) = true := wf_filter _ h

/-- The array after reset is in canonical form. -/
theorem wf_reset : Memory.wf State.reset.mem = true := rfl

/-- A programmed byte is its old content AND the new value; every other byte reads as before (08 R136). -/
theorem byteAt_programByte {m : List Host.Cell} (a : Nat) (v : Byte) (b : Nat) (h : Memory.wf m = true) :
    byteAt (programByte m a v) b = if b = a then byteAt m a &&& v else byteAt m b := byteAt_putByte a _ b h

/-- An erased block reads 0xFF throughout, and every other byte as before (08 R135). -/
theorem byteAt_eraseBytes (m : List Host.Cell) (b : BlockNo) (a : Nat) :
    byteAt (eraseBytes m b) a = if inBlock b a then 0xFF else byteAt m a := by
  unfold eraseBytes
  rw [byteAt_filter (fun a => !inBlock b a)]
  by_cases h : inBlock b a = true <;> simp [h]

end Sys2Proof.Machine
end

