-- ==== Sys2Proof/Laws/PerInstr.lean ====
section
/-! SUPPORT. A family of facts about every command: the code that a request's command carries names that command alone, and some port may
send it (11 R193). A transfer or an event carries no request. -/

namespace Sys2Proof.Laws.CommandCodes

open Sys2Proof Sys2Proof.Machine

/-- The command of a request row is found again by its code, and belongs to every port or to some port's own set. -/
def Statement (i : Instr) : Prop :=
  ∀ c q, requestOf i = some (c, q) → commandOf (commandCode c) = some c ∧ ∃ p, (everyPort c || ownSet p c) = true

/-- The statement for a row that carries a given command. -/
theorem of_command {i : Instr} {c : Command} {r : Req} (p : PortId) (hi : requestOf i = some (c, r))
    (hc : commandOf (commandCode c) = some c) (hp : (everyPort c || ownSet p c) = true) : Statement i := by
  intro c' q h
  rw [hi] at h
  cases h
  exact ⟨hc, p, hp⟩

/-- The statement for a row without a request. -/
theorem of_none {i : Instr} (hi : requestOf i = none) : Statement i := by
  intro c q h
  rw [hi] at h
  cases h

theorem identify (r : Req) : Statement (.identify r) :=
  of_command .desk rfl (by decide) (by decide)

theorem fetchNotices (r : Req) : Statement (.fetchNotices r) :=
  of_command .desk rfl (by decide) (by decide)

theorem readUnit (r : Req) (unit : UnitNo) : Statement (.readUnit r unit) :=
  of_command .desk rfl (by decide) (by decide)

theorem selectUnits (r : Req) (q : SelectQuery) : Statement (.selectUnits r q) :=
  of_command .desk rfl (by decide) (by decide)

theorem readGroup (r : Req) (group : Nat) : Statement (.readGroup r group) :=
  of_command .desk rfl (by decide) (by decide)

theorem readRack (r : Req) (rack : Nat) : Statement (.readRack r rack) :=
  of_command .desk rfl (by decide) (by decide)

theorem readChannelPlan (r : Req) (part : Nat) : Statement (.readChannelPlan r part) :=
  of_command .desk rfl (by decide) (by decide)

theorem readDirectory (r : Req) (start : Nat) (detail : Bool) : Statement (.readDirectory r start detail) :=
  of_command .desk rfl (by decide) (by decide)

theorem issueUnit (r : Req) (group channel : Nat) : Statement (.issueUnit r group channel) :=
  of_command .desk rfl (by decide) (by decide)

theorem openGroup (r : Req) (mic : UnitNo) (channel : Nat) : Statement (.openGroup r mic channel) :=
  of_command .desk rfl (by decide) (by decide)

theorem closeGroup (r : Req) (group : Nat) : Statement (.closeGroup r group) :=
  of_command .desk rfl (by decide) (by decide)

theorem moveGroup (r : Req) (group channel : Nat) : Statement (.moveGroup r group channel) :=
  of_command .desk rfl (by decide) (by decide)

theorem setUnitMarks (r : Req) (unit : UnitNo) (clearMask setMask : Byte) : Statement (.setUnitMarks r unit clearMask setMask) :=
  of_command .desk rfl (by decide) (by decide)

theorem reportUnits (r : Req) (records : List UnitReport) : Statement (.reportUnits r records) :=
  of_command .transmitter rfl (by decide) (by decide)

theorem reportGuideLinks (r : Req) (records : List LinkReport) : Statement (.reportGuideLinks r records) :=
  of_command .transmitter rfl (by decide) (by decide)

theorem fetchTuneOrders (r : Req) : Statement (.fetchTuneOrders r) :=
  of_command .transmitter rfl (by decide) (by decide)

theorem readTuneMap (r : Req) (page : Nat) (restart : Bool) : Statement (.readTuneMap r page restart) :=
  of_command .transmitter rfl (by decide) (by decide)

theorem enrolUnit (r : Req) (unit : UnitNo) (kind : Option UnitKind) (serial : BitVec 32) (marks : Byte) (cycles : Half) : Statement (.enrolUnit r unit kind serial marks cycles) :=
  of_command .operations rfl (by decide) (by decide)

theorem retireUnit (r : Req) (unit : UnitNo) : Statement (.retireUnit r unit) :=
  of_command .operations rfl (by decide) (by decide)

theorem unenrolUnit (r : Req) (unit : UnitNo) : Statement (.unenrolUnit r unit) :=
  of_command .operations rfl (by decide) (by decide)

theorem setRackBudget (r : Req) (rack budget : Nat) : Statement (.setRackBudget r rack budget) :=
  of_command .operations rfl (by decide) (by decide)

theorem setChargeSettings (r : Req) (settings : ChargeSettings) : Statement (.setChargeSettings r settings) :=
  of_command .operations rfl (by decide) (by decide)

theorem setIssueSettings (r : Req) (settings : IssueSettings) : Statement (.setIssueSettings r settings) :=
  of_command .operations rfl (by decide) (by decide)

theorem forceMonitor (r : Req) (rack slot : Nat) (monitors : Monitors) : Statement (.forceMonitor r rack slot monitors) :=
  of_command .operations rfl (by decide) (by decide)

theorem clearSlotFault (r : Req) (rack slot : Nat) : Statement (.clearSlotFault r rack slot) :=
  of_command .operations rfl (by decide) (by decide)

theorem setChannel (r : Req) (channel : Nat) (form : ChannelForm) : Statement (.setChannel r channel form) :=
  of_command .operations rfl (by decide) (by decide)

theorem setTime (r : Req) (time : Time) : Statement (.setTime r time) :=
  of_command .operations rfl (by decide) (by decide)

theorem startAnnouncement (r : Req) (clip loops : Nat) (channels : List Nat) : Statement (.startAnnouncement r clip loops channels) :=
  of_command .operations rfl (by decide) (by decide)

theorem stopPlayer (r : Req) (player : Nat) : Statement (.stopPlayer r player) :=
  of_command .operations rfl (by decide) (by decide)

theorem raiseEmergency (r : Req) : Statement (.raiseEmergency r) :=
  of_command .operations rfl (by decide) (by decide)

theorem clearEmergency (r : Req) : Statement (.clearEmergency r) :=
  of_command .operations rfl (by decide) (by decide)

theorem beginClip (r : Req) (clip : Nat) (language : Lang) (cls : Option ClipClass) : Statement (.beginClip r clip language cls) :=
  of_command .operations rfl (by decide) (by decide)

theorem appendAudio (r : Req) (clip : Nat) (codes : List Byte) : Statement (.appendAudio r clip codes) :=
  of_command .operations rfl (by decide) (by decide)

theorem sealClip (r : Req) (clip : Nat) : Statement (.sealClip r clip) :=
  of_command .operations rfl (by decide) (by decide)

theorem deleteClip (r : Req) (clip : Nat) : Statement (.deleteClip r clip) :=
  of_command .operations rfl (by decide) (by decide)

theorem eraseBlock (r : Req) (block : Nat) : Statement (.eraseBlock r block) :=
  of_command .operations rfl (by decide) (by decide)

theorem suspendStore (r : Req) : Statement (.suspendStore r) :=
  of_command .operations rfl (by decide) (by decide)

theorem resumeStore (r : Req) : Statement (.resumeStore r) :=
  of_command .operations rfl (by decide) (by decide)

theorem readStore (r : Req) (block : BlockNo) (offset length : Nat) : Statement (.readStore r block offset length) :=
  of_command .operations rfl (by decide) (by decide)

theorem protectGroup (r : Req) (group : Nat) : Statement (.protectGroup r group) :=
  of_command .operations rfl (by decide) (by decide)

theorem unprotectGroup (r : Req) (group : Nat) : Statement (.unprotectGroup r group) :=
  of_command .operations rfl (by decide) (by decide)

theorem saveSiteRecord (r : Req) (form : Option SaveForm) : Statement (.saveSiteRecord r form) :=
  of_command .operations rfl (by decide) (by decide)

theorem setPortOptions (r : Req) (port : Nat) (mask : BitVec 24) (attention invert : Bool) : Statement (.setPortOptions r port mask attention invert) :=
  of_command .operations rfl (by decide) (by decide)

theorem resetPart (r : Req) : Statement (.resetPart r) :=
  of_command .operations rfl (by decide) (by decide)

theorem frameWrite (port : PortId) (bytes : List Byte) : Statement (.frameWrite port bytes) :=
  of_none rfl

theorem readTransfer (port : PortId) (clocked : Nat) : Statement (.readTransfer port clocked) :=
  of_none rfl

theorem ignoredTransfer (port : PortId) (code : Byte) : Statement (.ignoredTransfer port code) :=
  of_none rfl

theorem rackPoll : Statement .rackPoll :=
  of_none rfl

theorem rackAnswer (rack : RackNo) (readings : Table Reading 16) : Statement (.rackAnswer rack readings) :=
  of_none rfl

theorem missedPoll (rack : RackNo) : Statement (.missedPoll rack) :=
  of_none rfl

theorem slotReading (rack : RackNo) (slot : SlotNo) (reading : Reading) : Statement (.slotReading rack slot reading) :=
  of_none rfl

theorem serialArrived (rack : RackNo) (slot : SlotNo) (serial : BitVec 32) : Statement (.serialArrived rack slot serial) :=
  of_none rfl

theorem identifyTimeout (rack : RackNo) (slot : SlotNo) : Statement (.identifyTimeout rack slot) :=
  of_none rfl

theorem latchWindowExpiry (rack : RackNo) (slot : SlotNo) : Statement (.latchWindowExpiry rack slot) :=
  of_none rfl

theorem siteClockAdvance : Statement .siteClockAdvance :=
  of_none rfl

theorem audioFrame (codes : Table Half 16) : Statement (.audioFrame codes) :=
  of_none rfl

theorem mixWindowEnd : Statement .mixWindowEnd :=
  of_none rfl

theorem readPathServe : Statement .readPathServe :=
  of_none rfl

theorem refillLand : Statement .refillLand :=
  of_none rfl

theorem readStoreComplete : Statement .readStoreComplete :=
  of_none rfl

theorem programDone (faults : List (Nat × Byte)) : Statement (.programDone faults) :=
  of_none rfl

theorem gatheringWindowExpiry : Statement .gatheringWindowExpiry :=
  of_none rfl

theorem pendingMarksDone (faults : List (Nat × Byte)) : Statement (.pendingMarksDone faults) :=
  of_none rfl

theorem blockEraseDone (left : List (Nat × Byte)) : Statement (.blockEraseDone left) :=
  of_none rfl

theorem suspensionComplete : Statement .suspensionComplete :=
  of_none rfl

theorem quietTimerExpiry : Statement .quietTimerExpiry :=
  of_none rfl

theorem recordSaveDone : Statement .recordSaveDone :=
  of_none rfl

theorem evacuationInputChange (active : Bool) : Statement (.evacuationInputChange active) :=
  of_none rfl

theorem serviceKeyChange (held : Bool) : Statement (.serviceKeyChange held) :=
  of_none rfl

theorem powerOn (straps : Straps) : Statement (.powerOn straps) :=
  of_none rfl

theorem resetLineAssert : Statement .resetLineAssert :=
  of_none rfl

theorem resetLineRelease (straps : Straps) : Statement (.resetLineRelease straps) :=
  of_none rfl

theorem startupEnd : Statement .startupEnd :=
  of_none rfl

end Sys2Proof.Laws.CommandCodes
end

