-- ==== Sys2Proof/Laws/Requests.lean ====
section
/-! SUPPORT. What serving a request does, said once: the owner's answer becomes the port's response, a request that waits stays in
EXECUTING, a form that does not fit is BAD_LENGTH, and a request row with no request in hand changes nothing. -/

namespace Sys2Proof.Machine

theorem serve_done {cmd : Command} {q : Req} {body : State → State × Option Answer} {s t : State} {a : Answer}
    (h : handedOn cmd (s.port q.port) = true) (hf : formFits cmd q s = true) (hb : body s = (t, some a)) :
    serve cmd q body s = answerPort q.port a t := by
  simp [serve, h, hf, hb]

theorem serve_wait {cmd : Command} {q : Req} {body : State → State × Option Answer} {s t : State}
    (h : handedOn cmd (s.port q.port) = true) (hf : formFits cmd q s = true) (hb : body s = (t, none)) :
    serve cmd q body s = keepWaiting q.port t := by
  simp [serve, h, hf, hb]

theorem serve_unfit {cmd : Command} {q : Req} {body : State → State × Option Answer} {s : State}
    (h : handedOn cmd (s.port q.port) = true) (hf : formFits cmd q s = false) :
    serve cmd q body s = answerPort q.port (refuse .badLength) s := by
  simp [serve, h, hf]

theorem serve_idle {cmd : Command} {q : Req} {body : State → State × Option Answer} {s : State}
    (h : handedOn cmd (s.port q.port) = false) : serve cmd q body s = s := by
  simp [serve, h]

/-- The port that answers is RESPONSE_READY with the request's tag. -/
theorem answerPort_state {p : PortId} {a : Answer} {s : State} {j : Job} (h : (s.port p).state = .executing j) :
    ((answerPort p a s).port p).state = .ready ⟨a.status, a.cond, j.tag, a.data⟩ := by
  simp [answerPort, h]

/-- Another port is left alone by an answer. -/
theorem answerPort_other {p p' : PortId} {a : Answer} {s : State} (h : p ≠ p') :
    (answerPort p a s).port p' = s.port p' := by
  simp [answerPort, State.updPort_port, h]

/-- A request in hand stands in EXECUTING. -/
theorem handedOn_executing {cmd : Command} {q : Port} (h : handedOn cmd q = true) :
    ∃ j, q.state = .executing j ∧ j.command = cmd ∧ j.taken = false := by
  unfold handedOn at h
  split at h
  · next j hj =>
    simp only [Bool.and_eq_true, beq_iff_eq, Bool.not_eq_true'] at h
    exact ⟨j, hj, h.1, h.2⟩
  · exact absurd h (by simp)

end Sys2Proof.Machine
end

