-- ==== Sys2Proof/Laws/Store.lean ====
section
/-! SUPPORT. What the store leaves in the array when work does not end well: a failing byte gains no bit (08 R136), marks cut short are whole
or not made (08 R159), and block 0 holds no valid record after a mark, a failed erase, a dropped save, a failed program or a program cut
short (12 R204, R210). -/

namespace Sys2Proof.Machine

/-- The first byte of a record's signature is not the pending mark. -/
theorem recordSignature_low : recordSignature.toNat % 256 ≠ 0 := by
  unfold recordSignature
  split
  · intro h
    have : (Config.signature ||| 1).getLsbD 0 = true := by simp
    rw [BitVec.getLsbD, Nat.testBit_zero] at this
    simp only [decide_eq_true_eq] at this
    omega
  · next hs =>
    intro h
    exact hs (by apply BitVec.eq_of_toNat_eq; simpa using h)

/-- A block 0 that carries the pending mark holds no valid record (12 R204). -/
theorem recordIsValid_marked {m : List Host.Cell} (h : byteAt m 0 = 0) : recordIsValid m = false := by
  have hf : field m 0 4 ≠ recordSignature.toNat := by
    intro he
    have := recordSignature_low
    rw [← he] at this
    simp [field, bytesFrom, ofLe, h] at this
  simp [recordIsValid, hf]

/-- Spoiling leaves no valid record (12 R210). -/
theorem recordIsValid_spoilRecord {m : List Host.Cell} (h : Memory.wf m = true) : recordIsValid (spoilRecord m) = false := by
  unfold spoilRecord
  split
  · refine recordIsValid_marked ?_
    have := byteAt_putByte (addressOf 0 0) 0x00 0 h
    simpa [addressOf] using this
  · next hn => simpa using hn

/-- Spoiling touches byte 0 of block 0 alone. -/
theorem byteAt_spoilRecord {m : List Host.Cell} {a : Nat} (ha : a ≠ 0) (h : Memory.wf m = true) :
    byteAt (spoilRecord m) a = byteAt m a := by
  unfold spoilRecord
  split
  · have := byteAt_putByte (addressOf 0 0) 0x00 a h
    simpa [addressOf, ha] using this
  · rfl

theorem wf_spoilRecord {m : List Host.Cell} (h : Memory.wf m = true) : Memory.wf (spoilRecord m) = true := by
  unfold spoilRecord
  split
  · exact wf_putByte _ _ h
  · exact h

theorem wf_programmed {m : List Host.Cell} (cells faults : List (Nat × Byte)) (h : Memory.wf m = true) :
    Memory.wf (programmed m cells faults) = true := wf_failBytes _ _ _ (wf_programCells _ h)

theorem wf_settledArray {m : List Host.Cell} (op : ProgramOp) (h : Memory.wf m = true) : Memory.wf (settledArray op m) = true := by
  unfold settledArray
  split
  · exact wf_spoilRecord h
  · exact h

theorem wf_markedArray {m : List Host.Cell} (t : Store) (h : Memory.wf m = true) : Memory.wf (markedArray t m) = true := by
  unfold markedArray
  split
  · exact wf_spoilRecord h
  · exact h

theorem wf_partialHeader {m : List Host.Cell} (old : List Host.Cell) (b : BlockNo) (cells : List (Nat × Byte))
    (h : Memory.wf m = true) : Memory.wf (partialHeader old b cells m) = true := by
  unfold partialHeader
  split
  · exact wf_putByte _ _ h
  · exact h

/-- A program operation cut short keeps the canonical form. -/
theorem wf_cutProgram {m : List Host.Cell} (k : Nat) (op : ProgramOp) (h : Memory.wf m = true) :
    Memory.wf (cutProgram k m op) = true := by
  have hp := wf_programPartly k (reachedCells op) h
  unfold cutProgram
  dsimp only
  split
  · exact wf_spoilRecord hp
  · split
    · exact wf_partialHeader _ _ _ hp
    · exact hp

/-- A record program cut short leaves no valid record (12 R204). -/
theorem recordIsValid_cutProgram {m : List Host.Cell} (k : Nat) (op : ProgramOp) (hj : op.job = .record) (h : Memory.wf m = true) :
    recordIsValid (cutProgram k m op) = false := by
  simpa [cutProgram, hj] using recordIsValid_spoilRecord (wf_programPartly k (reachedCells op) h)

/-- Pending marks programmed: byte 0 of every marked block reads 0x00, and every other byte as before (08 R148). -/
theorem byteAt_programMarks {m : List Host.Cell} (batch : List BatchEntry) (a : Nat) (h : Memory.wf m = true) :
    byteAt (programCells m (markCells batch)) a = if batch.any (fun e => addressOf e.block 0 == a) then 0x00 else byteAt m a := by
  induction batch generalizing m with
  | nil => rfl
  | cons e rest ih =>
    have hs : programCells m (markCells (e :: rest)) = programCells (programByte m (addressOf e.block 0) 0x00) (markCells rest) := rfl
    rw [hs, ih (wf_programByte _ _ h), byteAt_programByte _ _ _ h, List.any_cons]
    by_cases ha : a = addressOf e.block 0
    · subst ha; simp
    · have hb : (addressOf e.block 0 == a) = false := beq_eq_false_iff_ne.2 (Ne.symm ha)
      simp [hb, ha]

theorem wf_cutMarks {s : State} (h : Memory.wf s.mem = true) : Memory.wf (cutMarks s) = true := wf_programCells _ h

/-- Marks cut short (08 R159): each block of the batch is marked or keeps its former bytes. -/
theorem byteAt_cutMarks {s : State} (a : Nat) (h : Memory.wf s.mem = true) :
    byteAt (cutMarks s) a =
      if s.store.batch.any (fun e => markWasMade e.block s && addressOf e.block 0 == a) then 0x00 else byteAt s.mem a := by
  unfold cutMarks
  rw [byteAt_programMarks _ _ h, List.any_filter]

theorem wf_spoilDropped {s : State} (h : Memory.wf s.mem = true) : Memory.wf (spoilDropped s).mem = true := by
  unfold spoilDropped
  split
  · exact wf_spoilRecord h
  · exact h

/-- A record save dropped by Protect Group leaves no valid record (12 R210). -/
theorem recordIsValid_spoilDropped {s : State} (hb : s.store.batch = []) (hs : s.store.save.isSome = true)
    (h : Memory.wf s.mem = true) : recordIsValid (spoilDropped s).mem = false := by
  simpa [spoilDropped, hb, hs] using recordIsValid_spoilRecord h

/-- Only a record save's batch left empty spoils block 0 (08 R156). -/
theorem spoilDropped_of_no_save {s : State} (hs : s.store.save = none) : spoilDropped s = s := by simp [spoilDropped, hs]

theorem spoilDropped_of_batch {s : State} (hb : s.store.batch ≠ []) : spoilDropped s = s := by simp [spoilDropped, hb]

@[simp] theorem spoilDropped_store (s : State) : (spoilDropped s).store = s.store := by unfold spoilDropped; split <;> rfl

end Sys2Proof.Machine
end

