-- ==== Sys2Proof/WellFormed.lean ====
section
/-! DEFINITION. Well-formed commands: operands that the fields of a frame, a link answer or a pin can carry. A value outside its field's
width cannot be sent; a value inside it that the manual's checks refuse is well-formed, and is refused by its meaning. -/

namespace Sys2Proof

/-- A number that fits in one byte of a frame. -/
def fitsByte (n : Nat) : Bool := decide (n < 256)

/-- A number that fits in two bytes of a frame. -/
def fitsHalf (n : Nat) : Bool := decide (n < 65536)

/-- A number that fits in three bytes of a frame. -/
def fitsThree (n : Nat) : Bool := decide (n < 16777216)

/-- At most the 248 parameter bytes of a request frame (11 R191). -/
def fitsFrame (n : Nat) : Bool := decide (n ≤ 248)

/-- The charge settings fit two bytes each (02 R47). -/
def chargeFits (c : ChargeSettings) : Bool :=
  fitsHalf c.precharge && fitsHalf c.bulk && fitsHalf c.topoff && fitsHalf c.taper && fitsHalf c.receiverCapacity
    && fitsHalf c.micCapacity && fitsHalf c.lowThreshold && fitsHalf c.serviceLimit

/-- The issue settings fit their fields (04 R65). -/
def issueFits (c : IssueSettings) : Bool :=
  fitsHalf c.leaseDuration && fitsByte c.latchWindow && fitsHalf c.returnGrace && fitsByte c.readyThreshold

/-- The fields of a channel form fit (06 R103). -/
def channelFits (f : ChannelForm) : Bool :=
  fitsByte f.fixedSource && f.mixList.all (fun e => fitsByte e.source) && fitsHalf f.duckLevel && fitsByte f.holdClip
    && fitsFrame (3 * f.mixList.length)

/-- The site code and default clip of a save fit their two bytes and one (12 R209). -/
def saveFits (f : SaveForm) : Bool := fitsHalf f.siteCode && fitsByte f.defaultClip

/-- An address of the array (08 R135). -/
def inArray (a : Nat) : Bool := decide (a < 256 * 131072)

/-- A command whose operands its field can carry. The widths a list's records are given here, 5 bytes for a telemetry record, 4 for a guide
link record and 3 for a mix list entry, are the model's choice: the manual lays no request parameters out (log 1). -/
def wellFormed : Instr → Bool
  | .identify _ => true
  | .fetchNotices _ => true
  | .readUnit _ _ => true
  | .selectUnits _ _ => true
  | .readGroup _ g => fitsByte g
  | .readRack _ r => fitsByte r
  | .readChannelPlan _ p => fitsByte p
  | .readDirectory _ n _ => fitsByte n
  | .issueUnit _ g c => fitsByte g && fitsByte c
  | .openGroup _ _ c => fitsByte c
  | .closeGroup _ g => fitsByte g
  | .moveGroup _ g c => fitsByte g && fitsByte c
  | .setUnitMarks _ _ _ _ => true
  | .reportUnits _ rs => fitsFrame (5 * rs.length)
  | .reportGuideLinks _ rs => fitsFrame (4 * rs.length) && rs.all fun r => fitsByte r.input
  | .fetchTuneOrders _ => true
  | .readTuneMap _ p _ => fitsByte p
  | .enrolUnit _ _ _ _ _ _ => true
  | .retireUnit _ _ => true
  | .unenrolUnit _ _ => true
  | .setRackBudget _ r b => fitsByte r && fitsHalf b
  | .setChargeSettings _ c => chargeFits c
  | .setIssueSettings _ c => issueFits c
  | .forceMonitor _ r k _ => fitsByte r && fitsByte k
  | .clearSlotFault _ r k => fitsByte r && fitsByte k
  | .setChannel _ c f => fitsByte c && channelFits f
  | .setTime _ _ => true
  | .startAnnouncement _ n k cs => fitsByte n && fitsByte k && cs.all fitsByte && fitsFrame cs.length
  | .stopPlayer _ p => fitsByte p
  | .raiseEmergency _ => true
  | .clearEmergency _ => true
  | .beginClip _ n _ _ => fitsByte n
  | .appendAudio _ n codes => fitsByte n && fitsFrame codes.length
  | .sealClip _ n => fitsByte n
  | .deleteClip _ n => fitsByte n
  | .eraseBlock _ b => fitsHalf b
  | .suspendStore _ => true
  | .resumeStore _ => true
  | .readStore _ _ o n => fitsThree o && fitsByte n
  | .protectGroup _ g => fitsByte g
  | .unprotectGroup _ g => fitsByte g
  | .saveSiteRecord _ f => f.all saveFits
  | .setPortOptions _ p _ _ _ => fitsByte p
  | .resetPart _ => true
  | .frameWrite _ _ => true
  | .readTransfer _ _ => true
  | .ignoredTransfer _ code => code != 0x01 && code != 0x02
  | .rackPoll => true
  | .rackAnswer _ _ => true
  | .missedPoll _ => true
  | .slotReading _ _ _ => true
  | .serialArrived _ _ _ => true
  | .identifyTimeout _ _ => true
  | .latchWindowExpiry _ _ => true
  | .siteClockAdvance => true
  | .audioFrame _ => true
  | .mixWindowEnd => true
  | .readPathServe => true
  | .refillLand => true
  | .readStoreComplete => true
  | .programDone faults => faults.all fun f => inArray f.1
  | .gatheringWindowExpiry => true
  | .pendingMarksDone faults => faults.all fun f => inArray f.1
  | .blockEraseDone left => left.all fun f => decide (f.1 < 131072)
  | .suspensionComplete => true
  | .quietTimerExpiry => true
  | .recordSaveDone => true
  | .evacuationInputChange _ => true
  | .serviceKeyChange _ => true
  | .powerOn _ => true
  | .resetLineAssert => true
  | .resetLineRelease _ => true
  | .startupEnd => true

end Sys2Proof
end

