-- ==== Sys2Proof/Tests/Slice0.lean ====
section
/-! SUPPORT. Small tests. The expected values come from the manual's tables, worked examples and rules, named at each test. The last part
shows, for each statement with hypotheses, a state and operands that meet them. -/

namespace Sys2Proof.Tests

open Sys2Proof Sys2Proof.Machine

set_option Elab.async false

/-! ## Helpers -/

/-- The state a command leads to. -/
def after (i : Instr) (s : State) : State :=
  match exec i s with
  | .next t => t
  | _ => s

/-- A request of the Operations port that fits its form. -/
def ops : Req := ⟨.operations, true⟩

/-- A running part: racks ONLINE with empty slots, ports IDLE. -/
def up : State :=
  { State.reset with
    phase := .running, racks := Table.fill { resetRack with online := true },
    slots := Table.fill { resetSlot with state := .empty }, desk := { resetPort with state := .idle },
    transmitter := { resetPort with state := .idle }, operations := { resetPort with state := .idle } }

/-- The request in hand, its tag 0x5A. -/
def job (c : Command) : Job := ⟨0x5A, c, [], false, false⟩

/-- The state with a request of the Operations port in hand whose frame carries these parameter bytes. -/
def askWith (c : Command) (params : List Byte) (s : State) : State :=
  { s with operations := { s.operations with state := .executing { job c with params := params } } }

/-- The state with a request of the Operations port in hand. -/
def ask (c : Command) (s : State) : State := { s with operations := { s.operations with state := .executing (job c) } }

/-- The Operations port's state after a command. -/
def reply (i : Instr) (s : State) : PortState := (after i s).operations.state

/-- A response to the request in hand. -/
def answered (st : Status) (c : Cond) (d : Data) : PortState := .ready ⟨st, c, 0x5A, d⟩

/-- The kinds queued at the Operations port after a command. -/
def kinds (i : Instr) (s : State) : List NoticeKind := (after i s).operations.queue.map (·.kind)

/-- An enrolled, loose receiver with serial 7 and an enrolled, loose guide mic with serial 9. -/
def receiver : UnitEntry := { vacantEntry with kind := .receiver, serial := 7 }
def mic : UnitEntry := { vacantEntry with kind := .guideMic, serial := 9 }

def withUnit (u : UnitNo) (e : UnitEntry) (s : State) : State := s.updUnit u fun _ => e
def withSlot (i : SlotIx) (f : Slot → Slot) (s : State) : State := s.updSlot i f
def withClip (c : Clip) (s : State) : State := { s with directory := [c] }
def withStore (f : Store → Store) (s : State) : State := s.updStore f

/-- A reading with presence set. -/
def reading (mv : Half) (ma : Half) : Reading := ⟨true, mv, 250, ma⟩

/-! ## Ill-formed commands -/

theorem test_ill_byte : ([.readGroup ops 256, .readRack ops 256, .readChannelPlan ops 256, .readDirectory ops 256 false,
    .issueUnit ops 256 0, .issueUnit ops 0 256, .openGroup ops 0 256, .closeGroup ops 256, .moveGroup ops 1 256,
    .moveGroup ops 256 1, .readTuneMap ops 256 false, .setRackBudget ops 256 0, .forceMonitor ops 256 0 noMonitors,
    .forceMonitor ops 0 256 noMonitors, .clearSlotFault ops 256 0, .clearSlotFault ops 0 256, .stopPlayer ops 256] :
    List Instr).all (fun i => !wellFormed i) = true := by decide

theorem test_ill_clip_byte : ([.beginClip ops 256 ⟨0, 0⟩ none, .appendAudio ops 256 [], .sealClip ops 256, .deleteClip ops 256,
    .protectGroup ops 256, .unprotectGroup ops 256, .setPortOptions ops 256 0 true true, .startAnnouncement ops 256 1 [],
    .startAnnouncement ops 1 256 [], .startAnnouncement ops 1 1 [256]] : List Instr).all (fun i => !wellFormed i) = true := by
  decide

theorem test_ill_half : ([.setRackBudget ops 0 65536, .eraseBlock ops 65536, .saveSiteRecord ops (some ⟨65536, 0, Table.fill ⟨0, 0⟩⟩),
    .saveSiteRecord ops (some ⟨0, 256, Table.fill ⟨0, 0⟩⟩)] : List Instr).all (fun i => !wellFormed i) = true := by decide

theorem test_ill_frame : ([.reportUnits ops (List.replicate 50 ⟨0, 0, 0, true⟩), .reportGuideLinks ops (List.replicate 63 ⟨0, true, 0, 0⟩),
    .reportGuideLinks ops [⟨256, true, 0, 0⟩], .startAnnouncement ops 1 1 (List.replicate 249 0),
    .appendAudio ops 1 (List.replicate 249 0)] : List Instr).all (fun i => !wellFormed i) = true := by decide +kernel

theorem test_ill_settings : ([.setChargeSettings ops { defaultCharge with precharge := 65536 },
    .setChargeSettings ops { defaultCharge with bulk := 65536 }, .setChargeSettings ops { defaultCharge with topoff := 65536 },
    .setChargeSettings ops { defaultCharge with taper := 65536 }, .setChargeSettings ops { defaultCharge with receiverCapacity := 65536 },
    .setChargeSettings ops { defaultCharge with micCapacity := 65536 }, .setChargeSettings ops { defaultCharge with lowThreshold := 65536 },
    .setChargeSettings ops { defaultCharge with serviceLimit := 65536 }, .setIssueSettings ops { defaultIssue with leaseDuration := 65536 },
    .setIssueSettings ops { defaultIssue with latchWindow := 256 }, .setIssueSettings ops { defaultIssue with returnGrace := 65536 },
    .setIssueSettings ops { defaultIssue with readyThreshold := 256 }] : List Instr).all (fun i => !wellFormed i) = true := by decide

/-- A GROUP channel's form with the default gains. -/
def form : ChannelForm :=
  { mode := some .group, language := ⟨0, 0⟩, fixedSource := 0, primaryGain := 16384, mixList := [], announceGain := 16384,
    duckLevel := 8192, holdClip := 0, masterGain := 16384, floorGain := 8192 }

theorem test_ill_channel : ([.setChannel ops 256 form, .setChannel ops 0 { form with fixedSource := 256 },
    .setChannel ops 0 { form with mixList := [⟨256, 0⟩] }, .setChannel ops 0 { form with duckLevel := 65536 },
    .setChannel ops 0 { form with holdClip := 256 }, .setChannel ops 0 { form with mixList := List.replicate 83 ⟨0, 0⟩ }] :
    List Instr).all (fun i => !wellFormed i) = true := by decide +kernel

theorem test_ill_store : ([.readStore ops 0 16777216 1, .readStore ops 0 0 256, .programDone [(33554432, 0)],
    .pendingMarksDone [(33554432, 0)], .blockEraseDone [(131072, 0)], .ignoredTransfer .desk 0x01, .ignoredTransfer .desk 0x02] :
    List Instr).all (fun i => !wellFormed i) = true := by decide +kernel

theorem test_well_formed : ([.readGroup ops 255, .setRackBudget ops 255 65535, .readStore ops 255 16777215 255,
    .programDone [(33554431, 0)], .blockEraseDone [(131071, 0)], .ignoredTransfer .desk 0x03, .setChannel ops 255 form] :
    List Instr).all wellFormed = true := by decide

theorem test_no_word_spells_a_command : decodeTableWord 16 0x0001 = none := rfl

/-! ## Codes and arithmetic, against the manual's tables -/

/-- 11 R190's example: the register holds 0x07, 0x15, 0x6B. -/
theorem test_crc8 : crc8 [0x01] = 0x07 ∧ crc8 [0x01, 0x00] = 0x15 ∧ crc8 [0x01, 0x00, 0x00] = 0x6B := by decide

/-- 11 R192's codes. -/
theorem test_status_codes : [Status.ok, .started, .range, .noReadyUnit, .noPlayer, .clipLive, .verifyFail, .noFrame, .pending].map
    statusCode = [0x00, 0x01, 0x20, 0x30, 0x32, 0x40, 0x44, 0xE0, 0xE1] := by decide

/-- 09 R164's table. -/
theorem test_expand : [0x00, 0x0F, 0x35, 0x80, 0xC2, 0x7F, 0xFF].map (fun c : Byte => expand c)
    = [0, 120, 1244, 0, -2236, 32124, -32124] := by decide

/-- 02 R33's table. -/
theorem test_estimate : [3250, 3420, 3800, 4100, 4180].map estimate = [0, 30, 400, 900, 950] := by decide

/-- 07's worked sample: a sum of 22625 at a gain of 24576 gives 33938, which is limited to 32767 and counts. -/
theorem test_scale_and_clamp : scaleOut 22625 24576 = 33938 ∧ clampSample 33938 = 32767 ∧ isClamped 33938 = true
    ∧ isClamped 32767 = false ∧ isClamped (-32768) = false := by decide

/-- 07 R127: 768 frames from 32768 to 8192, and a last shorter step. -/
theorem test_duck : stepDuck 32768 8192 = 32736 ∧ stepDuck 8200 8192 = 8192 ∧ stepDuck 8192 32768 = 8224 := by decide

/-- 05 R92: the air code. -/
theorem test_air_code : airCode 1 0 = 16 ∧ airCode 4095 11 = 65531 ∧ airCode 12 3 = 195 := by decide

/-! ## Commands, one or two tests each -/

theorem test_identify : reply (.identify ops) (ask .identify up)
    = answered .ok noCond (.identity ⟨true, true, true⟩ ⟨true, true, true⟩ 0 1 false 0) := by decide +kernel

/-- 11 R197: the oldest 8 of 10 records, N for those left. -/
theorem test_fetch_notices : let n : Notice := ⟨.startup, .none, ⟨1, 0, 0, 0⟩, 0⟩
    let t := after (.fetchNotices ops) (ask .fetchNotices { up with operations := { up.operations with queue := List.replicate 10 n } })
    t.operations.queue = [n, n] ∧ t.operations.state = answered .ok ⟨false, false, true, false⟩ (.notices 2 false (List.replicate 8 n)) := by
  decide +kernel

theorem test_read_unit_vacant : reply (.readUnit ops 255) (ask .readUnit up)
    = answered .ok ⟨false, true, false, false⟩ (.entry vacantEntry false) := by decide +kernel

/-- 01 R18, R19: a lease remaining of -5 is below 0 signed and above it unsigned. -/
theorem test_select_units : [Relation.lt, .hi, .ge].map (fun r => reply
      (.selectUnits ops ⟨true, true, true, true, 0, some .leaseRemaining, some r, 0, some .off, 0⟩)
      (ask .selectUnits (withUnit 4 { receiver with location := .issued, deadline := some 5 } { up with siteTime := 10 })))
    = [answered .ok noCond (.selected 1 [4]), answered .ok noCond (.selected 1 [4]),
       answered .ok ⟨false, true, false, false⟩ (.selected 0 [])] := by decide +kernel

theorem test_read_group : reply (.readGroup ops 12) (ask .readGroup up)
    = answered .ok ⟨false, true, false, false⟩ (.group freeGroup none 0 0) := by decide +kernel

theorem test_read_group_range : [0, 13].map (fun n => reply (.readGroup ops n) (ask .readGroup up))
    = [answered .range noCond .none, answered .range noCond .none] := by decide +kernel

theorem test_read_rack_range : reply (.readRack ops 4) (ask .readRack up) = answered .range noCond .none := by decide +kernel

theorem test_read_channel_plan : reply (.readChannelPlan ops 3) (ask .readChannelPlan up)
    = answered .ok ⟨false, true, false, false⟩ (.plan (List.replicate 16 false) (List.replicate 8 ⟨none, 0⟩)
        (List.replicate 12 .off) false) := by decide +kernel

theorem test_read_directory : [0, 97].map (fun n => reply (.readDirectory ops n false) (ask .readDirectory up))
    = [answered .range noCond .none, answered .range noCond .none] := by decide +kernel

/-- A running part with a READY receiver, unit 4, in rack 1 slot 2, at the head of the ready queue, and channel 3 in HOLD. -/
def issuing : State :=
  (withSlot 18 (fun sl => { sl with state := .ready, occupant := .enrolled 4 }) <|
    withUnit 4 { receiver with location := .inSlot, slot := some 18, charge := 1000 } { up with ready := [4] }).updChannel 3
    fun ch => { ch with state := .hold, config := { ch.config with mode := .fixed } }

/-- 04 R71: RELEASING with its lease, slot RELEASING unlatched, a tune order, Z as the queue is left empty. -/
theorem test_issue_unit : let t := after (.issueUnit ops 0 3) (ask .issueUnit issuing)
    t.operations.state = answered .ok ⟨false, true, false, false⟩ (.issued 4 18 3 19 7200 0)
      ∧ (t.slot 18).state = .releasing ∧ (t.slot 18).out = ⟨false, 0, .take⟩ ∧ (t.slot 18).window = some 30
      ∧ t.tune = [⟨4, 19⟩] := by decide +kernel

theorem test_issue_unit_empty : reply (.issueUnit ops 0 3) (ask .issueUnit { issuing with ready := [] })
    = answered .noReadyUnit noCond .none := by decide +kernel

/-- 05 R86: record 1, the mic tuned to the channel. -/
theorem test_open_group : let t := after (.openGroup ops 9 2) (ask .openGroup (withUnit 9 mic up))
    t.operations.state = answered .ok noCond (.opened 0 2 18 0) ∧ (t.channel 2).group = some 0 ∧ (t.channel 2).state = .hold
      ∧ t.tune = [⟨9, 18⟩] := by decide +kernel

/-- 05 R85: a receiver opens no group. -/
theorem test_open_group_kind : reply (.openGroup ops 4 2) (ask .openGroup (withUnit 4 receiver up))
    = answered .conflict noCond (.reason .micKind none) := by decide +kernel

/-- A group of guide mic 9 on channel 2, with unit 4 a member until 5000. -/
def touring : State :=
  ((withUnit 9 { mic with assigned := some 0 } <|
    withUnit 4 { receiver with location := .issued, group := some 0, channel := some 2, deadline := some 5000 } up).updGroup 0
    fun _ => ⟨.opened, some 9, some 2, 1, some 0⟩).updChannel 2 fun ch => { ch with group := some 0, state := .hold }

/-- 05 R88: the member's deadline capped at the return grace of 900. -/
theorem test_close_group : let t := after (.closeGroup ops 1) (ask .closeGroup touring)
    t.operations.state = answered .ok noCond (.closed 1 1 .closing) ∧ (t.unit 4).deadline = some 900 := by decide +kernel

/-- 05 R91: mic and member tuned to the new channel. -/
theorem test_move_group : let t := after (.moveGroup ops 1 5) (ask .moveGroup touring)
    t.operations.state = answered .ok noCond (.moved 2 5 21 2 0 0) ∧ t.tune = [⟨9, 21⟩, ⟨4, 21⟩]
      ∧ (t.channel 2).state = .off ∧ (t.channel 5).state = .hold := by decide +kernel

/-- 01 R10: clear first, then set. -/
theorem test_set_unit_marks : reply (.setUnitMarks ops 4 0x0F 0x03) (ask .setUnitMarks (withUnit 4 { receiver with marks := 0x1C } up))
    = answered .ok noCond (.marks 0x1C 0x13) := by decide +kernel

/-- 01 R14, R15: charge clamped to 1000 sets V; a low issued receiver is reported once. -/
theorem test_report_units : let s := ask .reportUnits (withUnit 9 mic touring)
    let t := after (.reportUnits ops [⟨4, 100, 50, true⟩, ⟨9, 1001, 101, true⟩, ⟨7, 0, 0, true⟩, ⟨4, 0, 0, false⟩]) s
    t.operations.state = answered .ok ⟨true, false, false, false⟩ (.reported 2 1 1) ∧ (t.unit 9).charge = 1000
      ∧ t.operations.queue.map (·.kind) = [.unitLow] := by decide +kernel

/-- 06 R109: the second record takes the unit out of the first entry. -/
theorem test_report_guide_links : (after (.reportGuideLinks ops [⟨1, true, 9, 90⟩, ⟨4, true, 9, 101⟩]) (ask .reportGuideLinks touring)).links.cells
    = [⟨none, 0⟩, ⟨none, 0⟩, ⟨none, 0⟩, ⟨none, 0⟩, ⟨some 9, 100⟩, ⟨none, 0⟩, ⟨none, 0⟩, ⟨none, 0⟩] := by decide +kernel

theorem test_fetch_tune_orders : reply (.fetchTuneOrders ops) (ask .fetchTuneOrders { up with tune := [⟨4, 21⟩], resync := true })
    = answered .ok noCond (.orders 0 true [⟨4, 21⟩]) := by decide +kernel

theorem test_read_tune_map : reply (.readTuneMap ops 0 true) (ask .readTuneMap touring)
    = answered .ok ⟨false, false, false, true⟩ (.tuneMap 1 [⟨4, 18⟩]) := by decide +kernel

theorem test_enrol_unit : reply (.enrolUnit ops 3 (some .receiver) 7 0 0) (ask .enrolUnit (withUnit 4 receiver up))
    = answered .conflict noCond (.unitNumber 4) := by decide +kernel

/-- 01 R7: enrolled where its serial stands, charge the slot's figure, READY when its charge had ended. -/
theorem test_enrol_unit_in_slot : let t := after (.enrolUnit ops 3 (some .receiver) 7 0 0) (ask .enrolUnit
      (withSlot 18 (fun sl => { sl with state := .full, occupant := .unenrolled 7, charge := 1000 }) up))
    t.operations.state = answered .ok noCond (.enrolled .inSlot (some 18)) ∧ t.ready = [3] ∧ (t.slot 18).state = .ready := by
  decide +kernel

theorem test_retire_unit : reply (.retireUnit ops 4) (ask .retireUnit touring) = answered .conflict noCond .none := by decide +kernel

theorem test_unenrol_unit : (after (.unenrolUnit ops 4) (ask .unenrolUnit (withUnit 4 receiver up))).unit 4 = vacantEntry := by
  decide +kernel

/-- A rack with two grants of 500 and a budget of 1000. -/
def charging : State :=
  withSlot 0 (fun sl => { sl with state := .bulk, granted := some 500, occupant := .enrolled 4 }) <|
    withSlot 1 (fun sl => { sl with state := .bulk, granted := some 500, occupant := .unenrolled 5 }) <|
      withUnit 4 { receiver with location := .inSlot, slot := some 0 } <|
        up.updRack 0 fun a => { a with budget := 1000, grants := [⟨0, 500⟩, ⟨1, 500⟩] }

/-- 03 R57, R58: the later grant goes, and waits at the head. -/
theorem test_set_rack_budget : let t := after (.setRackBudget ops 0 900) (ask .setRackBudget charging)
    t.operations.state = answered .ok noCond (.budget 900 1 500 400 1) ∧ (t.rack 0).waits = [1] ∧ (t.slot 1).state = .waitBudget
      ∧ (t.slot 1).pending = some .bulk := by decide +kernel

theorem test_set_charge_settings : let t := after (.setChargeSettings ops { defaultCharge with bulk := 99 }) (ask .setChargeSettings up)
    t.charge = { defaultCharge with bulk := 100 } ∧ t.operations.state = answered .ok ⟨true, false, false, false⟩ .none := by
  decide +kernel

theorem test_set_issue_settings : reply (.setIssueSettings ops defaultIssue) (ask .setIssueSettings up)
    = answered .ok ⟨false, false, false, true⟩ .none := by decide +kernel

theorem test_force_monitor : reply (.forceMonitor ops 0 0 noMonitors) (ask .forceMonitor up) = answered .conflict noCond .none := by
  decide +kernel

theorem test_clear_slot_fault : let t := after (.clearSlotFault ops 0 0) (ask .clearSlotFault
      (withSlot 0 (fun sl => { sl with state := .fault, cause := ⟨true, false, false, false⟩ }) charging))
    (t.slot 0).state = .identify ∧ (t.slot 0).previous = .enrolled 4 ∧ (t.slot 0).cause = noMonitors := by decide +kernel

/-- 06 R103 check 4: a GROUP channel's mix list takes no guide input. -/
theorem test_set_channel : [0, 8].map (fun n => reply (.setChannel ops 0 { form with mixList := [⟨n, 0⟩] }) (ask .setChannel up))
    = [answered .range noCond (.position 0), answered .ok noCond (.channelSet .off none)] := by decide +kernel

/-- 04 R67: the deadline 5000 is reached at 5000. -/
theorem test_deadline : [4999, 5000].map (fun t : Time => ((judgeDeadline 4 { touring with siteTime := t }).unit 4).overdue)
    = [false, true] := by decide +kernel

theorem test_set_time : reply (.setTime ops 0) (ask .setTime up) = answered .ok ⟨false, false, false, true⟩ (.times 0 0) := by
  decide +kernel

def clip1 : Clip := ⟨1, ⟨0x65, 0x6E⟩, .standard, .valid, [32], 300⟩

/-- 09 R168: player 0 plays it, its first read placed. -/
theorem test_start_announcement : let t := after (.startAnnouncement ops 1 2 [3, 0]) (ask .startAnnouncement (withClip clip1 up))
    (t.player 0).channels = [0, 3] ∧ (t.player 0).read = .waiting
      ∧ t.operations.state = answered .ok ⟨false, true, false, false⟩ (.announced 0 300 0 none) := by decide +kernel

theorem test_start_announcement_twice_named : reply (.startAnnouncement ops 1 2 [3, 3]) (ask .startAnnouncement (withClip clip1 up))
    = answered .range noCond (.position 1) := by decide +kernel

/-- Player 0 announces clip 1 to channel 3. -/
def announcing : State :=
  (withClip clip1 up).updPlayer 0 fun q =>
    { q with state := .playing, owner := some .announce, clip := some 1, loops := 1, position := 299, channels := [3], buffer := [0x0F],
             fetchOpen := false }

theorem test_stop_player : let t := after (.stopPlayer ops 0) (ask .stopPlayer announcing)
    t.player 0 = idlePlayer ∧ t.operations.queue = [⟨.playerDone, .player 0, ⟨1, 1, 0, 1⟩, 0⟩] := by decide +kernel

/-- 10 R176: the notice, and the player stopped. -/
theorem test_raise_emergency : let t := after (.raiseEmergency ops) (ask .raiseEmergency announcing)
    t.operations.queue.map (·.kind) = [.emergencyRaised, .playerPreempted] ∧ t.player 0 = idlePlayer
      ∧ t.operations.state = answered .ok ⟨false, true, false, false⟩ (.raised true (some .request) (some 0) false 0 0 0) := by
  decide +kernel

def raisedState : State := { up with emergency := { up.emergency with raised := some ⟨.request, 0⟩ }, siteTime := 61 }

theorem test_clear_emergency : reply (.clearEmergency ops) (ask .clearEmergency raisedState)
    = answered .ok noCond (.cleared 0 0 12 61) := by decide +kernel

/-- 08 R141: a STANDARD clip takes block 32, of the lowest unprotected group. -/
theorem test_begin_clip : let t := after (.beginClip ops 1 ⟨0x65, 0x6E⟩ (some .standard)) (ask .beginClip up)
    t.store.state = .programming ∧ t.store.op.map (·.job) = some (.begin 1 ⟨0x65, 0x6E⟩ .standard 32) := by decide +kernel

/-- 08 R141, R155: the EMERGENCY groups are protected. -/
theorem test_begin_clip_protected : reply (.beginClip ops 1 ⟨0, 0⟩ (some .emergency)) (ask .beginClip up)
    = answered .isProtected noCond .none := by decide +kernel

def writing : State := withClip { clip1 with state := .writing, total := 131055 } up

/-- 08 R143: the last sample's byte, then the block's sample count 131056. -/
theorem test_append_audio : (after (.appendAudio ops 1 [0x35]) (ask .appendAudio writing)).store.op.map (·.cells)
    = some [(4325375, 0x35), (4194314, 0xF0), (4194315, 0xFF), (4194316, 0x01), (4194317, 0x00)] := by decide +kernel

theorem test_seal_clip : reply (.sealClip ops 1) (ask .sealClip (withClip { clip1 with state := .writing, total := 0 } up))
    = answered .conflict noCond .none := by decide +kernel

theorem test_delete_clip : reply (.deleteClip ops 1) (ask .deleteClip announcing) = answered .inUse noCond (.playedBy 0) := by
  decide +kernel

theorem test_erase_block : reply (.eraseBlock ops 32) (ask .eraseBlock announcing) = answered .clipLive noCond (.clipId 1) := by
  decide +kernel

theorem test_suspend_store : reply (.suspendStore ops) (ask .suspendStore up)
    = answered .ok ⟨false, false, false, true⟩ (.suspended .ready none) := by decide +kernel

theorem test_resume_store : reply (.resumeStore ops) (ask .resumeStore (withStore (fun t => { t with state := .suspending, target := .held }) up))
    = answered .ok noCond (.storeState .suspending) := by decide +kernel

theorem test_read_store : [(131072, 1), (0, 0), (0, 241), (131072, 0)].map (fun x =>
    reply (.readStore ops 0 x.1 x.2) (ask .readStore up)) = List.replicate 4 (answered .range noCond .none) := by decide +kernel

theorem test_protect_group : reply (.protectGroup ops 15) (ask .protectGroup up) = answered .ok noCond (.protection 0x8003) := by
  decide +kernel

theorem test_unprotect_group : [false, true].map (fun k => reply (.unprotectGroup ops 1) (ask .unprotectGroup { up with key := k }))
    = [answered .isProtected noCond .none, answered .ok noCond (.protection 0x0001)] := by decide +kernel

/-- 12 R209's thirteen bytes: site code 0x0102, default clip 7, five tags aa. -/
def saveBytes : List Byte := 0x02 :: 0x01 :: 7 :: List.replicate 10 0x61

theorem test_save_site_record : spelledForm saveBytes = some ⟨0x0102, 7, Table.fill ⟨0x61, 0x61⟩⟩
    ∧ (after (.saveSiteRecord ops (spelledForm saveBytes)) (askWith .saveSiteRecord saveBytes { up with key := true })).store.save.map
        (·.siteCode) = some 0x0102
    ∧ [[0, 0], [0x00, 0x10]].map (fun code : List Byte => let bs := code ++ List.replicate 11 0
        reply (.saveSiteRecord ops (spelledForm bs)) (askWith .saveSiteRecord bs { up with key := true }))
          = List.replicate 2 (answered .range noCond .none) := by decide +kernel

/-- 12 R209: twelve bytes fit no form. -/
theorem test_save_site_record_length : reply (.saveSiteRecord ops none) (askWith .saveSiteRecord (List.replicate 12 1) up)
    = answered .badLength noCond .none := by decide +kernel

theorem test_set_port_options : reply (.setPortOptions ops 3 0 true true) (ask .setPortOptions up) = answered .range noCond .none := by
  decide +kernel

theorem test_reset_part : (after (.resetPart ops) (ask .resetPart up)).operations.state = .starting := by decide +kernel

/-- 11 R201: a Reset Part carrying parameters is refused BAD_LENGTH. -/
theorem test_reset_part_with_parameters :
    reply (.resetPart ops) { up with operations := { up.operations with state := .executing { job .resetPart with params := [0] } } }
      = .ready ⟨.badLength, noCond, 0x5A, .none⟩ := by decide +kernel

/-- 11 R190's frame: Identify, tag 0. -/
theorem test_frame_write : (after (.frameWrite .operations [0x01, 0x00, 0x00, 0x6B]) up).operations.state
    = .executing ⟨0, .identify, [], false, false⟩ := by decide +kernel

/-- 11 R193: Set Rack Budget is not the Desk port's. -/
theorem test_frame_write_rights : (after (.frameWrite .desk [0x33, 0x11, 0x00, crc8 [0x33, 0x11, 0x00]]) up).desk.state
    = .ready ⟨.noRights, noCond, 0x11, .none⟩ := by decide +kernel

/-- 11 R191: status, conditions, tag, length and check of NO_FRAME, then 0x00. -/
theorem test_read_transfer : (after (.readTransfer .desk 7) up).desk.sent
    = [0xE0, 0, 0, 0, 0, crc8 [0xE0, 0, 0, 0, 0], 0] := by decide +kernel

theorem test_ignored_transfer : after (.ignoredTransfer .desk 0xFF) up = up := by decide +kernel

theorem test_rack_poll : (after .rackPoll charging).slots.cells.all (fun sl => sl.sent == some sl.out) = true := by decide +kernel

theorem test_rack_answer : let t := after (.rackAnswer 3 (Table.fill ⟨true, 3700, 250, 0⟩)) State.reset
    (t.rack 3).online = true ∧ (t.slot 63).state = .identify ∧ (t.slot 47).state = .offline := by decide +kernel

theorem test_missed_poll : ((after (.missedPoll 0) (charging.updRack 0 fun a => { a with misses := 2 })).rack 0)
    = ⟨false, 3, 1000, [], []⟩ := by decide +kernel

/-- 02 R36: 500 mA for a second is 5000 of the 21600 units in a permille of 600 mAh. -/
theorem test_slot_reading_counts : (after (.slotReading 0 0 (reading 3700 500))
      (withSlot 0 (fun sl => { sl with acc := 17000 }) charging)).slot 0
    = { charging.slot 0 with acc := 400, charge := 1, last := some ⟨3700, 250, 500, false⟩ } := by decide +kernel

/-- 02 R37: at 4150 mV BULK becomes TOPOFF, its grant reduced in place. -/
theorem test_slot_reading_topoff : let t := after (.slotReading 0 0 (reading 4150 500)) charging
    (t.slot 0).state = .topoff ∧ (t.rack 0).grants = [⟨0, 100⟩, ⟨1, 500⟩] := by decide +kernel

theorem test_serial_arrived : let s := (withSlot 5 (fun sl => { startIdentify sl with last := some ⟨3800, 250, 0, false⟩ }) (withUnit 4 receiver up))
    let t := after (.serialArrived 0 5 7) s
    (t.slot 5).occupant = .enrolled 4 ∧ (t.unit 4).charge = 400 ∧ (t.slot 5).state = .bulk ∧ (t.rack 0).grants = [⟨5, 500⟩] := by
  decide +kernel

theorem test_identify_timeout : let s := withSlot 5 (fun sl => { startIdentify sl with attempts := 2 }) up
    ((after (.identifyTimeout 0 5) s).slot 5).occupant = .unenrolled 0 ∧ kinds (.identifyTimeout 0 5) s = [.unknownUnit] := by
  decide +kernel

theorem test_latch_window_expiry : let s := after (.issueUnit ops 0 3) (ask .issueUnit issuing)
    let t := after (.latchWindowExpiry 1 2) s
    t.ready = [4] ∧ (t.slot 18).state = .ready ∧ t.tune = [⟨4, 0⟩] ∧ t.operations.queue.map (·.kind) = [.readyLow, .issueTimeout] := by
  decide +kernel

theorem test_site_clock_advance : (after .siteClockAdvance { up with siteTime := 0xFFFFFFFF }).siteTime = 0 := by decide +kernel

/-- 07's worked frame, on a channel of FIXED mode: out 22625. -/
def onAir : State :=
  ({ announcing with presence := Table.fill ⟨true, 0, 320⟩ }.updPlayer 0 fun q => { q with buffer := [0x69], position := 0 }).updChannel 3
    fun ch => { ch with state := .live, primary := some 3,
                        config := { ch.config with mode := .fixed, fixedSource := 3, mixList := [⟨12, 8192⟩], announceGain := 24576 } }

/-- 07's table with a player sample of 12924 (09 R164: code 0x69), the duck at 8192. -/
theorem test_audio_frame : let s := onAir.updMix 3 fun m => { m with duck := 8192 }
    (after (.audioFrame (Table.ofFn fun k => if k = 3 then 20000 else if k = 12 then BitVec.ofInt 16 (-3000) else 0)) s).outNext.get 3
      = 4625 + 19386 := by decide +kernel

/-- 11 R202: slots 12 to 15 carry 0. -/
theorem test_output_slots : let s := { up with outNow := Table.fill 7 }
    [(11 : Fin 16), 12, 15].map (outputSlot s) = [7, 0, 0] := by decide +kernel

/-- 06 R105: 320 frames in a row make a LOST source PRESENT. -/
theorem test_presence : hear 0 ⟨false, 0, 319⟩ = ⟨true, 0, 320⟩ ∧ hear absentCode ⟨true, 1599, 0⟩ = ⟨false, 1600, 0⟩
    ∧ hear absentCode ⟨true, 0, 320⟩ = ⟨true, 1, 0⟩ := by decide

/-- 07's sustained overload: 24576 to 23040. -/
theorem test_mix_window_end : let s := ({ up with window := 4000 }.updMix 8 fun m => { m with master := 24576, tally := 8 })
    (after .mixWindowEnd s).mix.get 8 = ⟨32768, 23040, 0⟩ ∧ (after .mixWindowEnd s).window = 0 := by decide +kernel

/-- A READ_STORE read of block 32 waits. -/
def rawWaits : State := { ask .readStore up with path := { up.path with raw := some ⟨32, 0, 2, .operations⟩ } }

theorem test_read_path_serve : (after .readPathServe rawWaits).path.inService = some 6 := by decide +kernel

theorem test_read_store_complete : reply .readStoreComplete
    { rawWaits with path := { rawWaits.path with inService := some 6 }, mem := [(4194304, 0x4E)] }
    = answered .ok noCond (.bytes [0x4E, 0xFF]) := by decide +kernel

/-- 08 R153: a clip of 300 samples gives 256 codes, then 44. -/
theorem test_refill_land : let s := { withClip clip1 up with path := { up.path with inService := some 0 } }.updPlayer 0 fun q =>
      { q with state := .filling, owner := some .announce, clip := some 1, loops := 1, fetchLoops := 1, read := .inService, fetch := 256 }
    let t := after .refillLand s
    (t.player 0).buffer.length = 44 ∧ (t.player 0).fetchOpen = false ∧ (t.player 0).state = .playing := by decide +kernel

/-- 08 R136: programming changes 1s to 0s alone; a byte that does not read back makes the block DIRTY. -/
theorem test_program_done : let s := { up with mem := [(4194320, 0x0F)] }
    let t := after (.programDone []) (withStore (fun t => { t with state := .programming, op := some ⟨[(4194320, 0xF3)], .delete 1, none⟩ }) s)
    byteAt t.mem 4194320 = 0x03 ∧ t.blocks.get 32 = .dirty ∧ t.operations.queue.map (·.kind) = [.storeFault] := by decide +kernel

/-- 08 R136: a failing byte gains no 1-bit, so that an event cannot undo a byte that was 0 already. -/
theorem test_fault_gains_no_bit : byteAt (programmed [(5, 0x0F)] [(5, 0xF3)] [(5, 0xF3)]) 5 = 0x03 := by decide

/-- A batch of blocks 33 and 40 being gathered. -/
def gathering : State := withStore (fun t => { t with state := .gathering, batch := [⟨33, false⟩, ⟨40, false⟩] }) up

theorem test_gathering_window_expiry : (after .gatheringWindowExpiry gathering).store.stage = .marking := by decide +kernel

def erasing : State := withStore (fun t => { t with state := .erasing, stage := .erasing, inHand := some 33 }) gathering

theorem test_pending_marks_done : let s := withStore (fun t => { t with state := .erasing, stage := .marking }) gathering
    let t := after (.pendingMarksDone []) s
    t.mem = [(4325376, 0), (5242880, 0)] ∧ t.store.inHand = some 33 ∧ t.blocks.get 40 = .dirty := by decide +kernel

/-- A record save of block 0 whose pending mark is due. -/
def saving : State := withStore (fun t =>
  { t with state := .erasing, stage := .marking, batch := [⟨0, false⟩], save := some ⟨[], 77, none⟩ }) up

/-- 08 R148: a save's mark that reads back otherwise than 0x00 is reported. -/
theorem test_save_mark_fails : let t := after (.pendingMarksDone [(0, 0x4E)]) saving
    t.operations.queue = [⟨.storeFault, .block 0, ⟨0, 0, 0, 0⟩, 0⟩] ∧ t.store.stage = .erasing := by decide +kernel

/-- 08 R156, 12 R210: a save dropped while a read keeps its mark from beginning leaves an array without a valid record as it was. -/
theorem test_save_dropped : let t := after (.protectGroup ops 0) (ask .protectGroup
      { saving with mem := [(3, 0x11)], path := { up.path with inService := some 0 } })
    t.mem = [(3, 0x11)] ∧ (t.store.save.bind (·.outcome)) = some .dropped ∧ t.store.state = .ready := by decide +kernel

theorem test_block_erase_done : let t := after (.blockEraseDone []) { erasing with mem := [(4325376, 0), (5242880, 0)] }
    t.mem = [(5242880, 0)] ∧ t.store.inHand = some 40 := by decide +kernel

/-- 08 R148: a byte left over makes the block DIRTY and is reported. -/
theorem test_block_erase_left : let t := after (.blockEraseDone [(0, 0x7F)]) erasing
    t.blocks.get 33 = .dirty ∧ t.operations.queue.map (·.kind) = [.storeFault] := by decide +kernel

theorem test_suspension_complete : (after .suspensionComplete (withStore (fun t => { t with state := .suspending, target := .auto, inHand := none })
    erasing)).store.state = .suspendedAuto := by decide +kernel

theorem test_quiet_timer_expiry : let t := after .quietTimerExpiry (withStore (fun t => { t with state := .suspendedAuto, inHand := none }) erasing)
    t.store.state = .erasing ∧ t.store.inHand = some 33 := by decide +kernel

/-- 12 R210: DROPPED carries site code 0. -/
theorem test_record_save_done : let t := after .recordSaveDone (withStore (fun t => { t with save := some ⟨[], 77, some .dropped⟩ }) up)
    t.operations.queue = [⟨.recordSaved, .block 0, ⟨3, 0, 0, 1⟩, 0⟩] ∧ t.store.save = none := by decide +kernel

theorem test_evacuation_input : (after (.evacuationInputChange true) up).emergency.raised = some ⟨.input, 0⟩ := by decide +kernel

theorem test_service_key : (after (.serviceKeyChange true) up).key = true := by decide +kernel

theorem test_power_on : (after (.powerOn ⟨true, true, true⟩) State.reset) = State.reset := by decide +kernel

/-- 11 R194: with the Desk port disabled its set is folded into the Operations port. -/
theorem test_power_on_straps : let t := after (.powerOn ⟨false, true, true⟩) State.reset
    t.desk.enabled = false ∧ hasRight t.straps .operations .issueUnit = true := by decide +kernel

theorem test_reset_line : (after .resetLineAssert up).phase = .held
    ∧ (after (.resetLineRelease ⟨true, true, true⟩) { up with phase := .held }).phase = .startUp := by decide +kernel

/-- 12 R206: STARTUP with cause power-on, no valid record, racks 0 to 3 answered. -/
theorem test_startup_end : let t := after .startupEnd { State.reset with startUp := ⟨Table.fill true, Table.fill true, 0⟩ }
    t.phase = .running ∧ t.desk.queue = [⟨.startup, .none, ⟨1, 15, 0, 0⟩, 0⟩] ∧ t.desk.state = .idle := by decide +kernel

/-! ## States and operands that meet the statements' hypotheses -/

/-- A request asked at the Operations port is in hand. -/
theorem inHand (c : Command) (s : State) : InHand c ops (ask c s) :=
  ⟨by simp [handedOn, ask, ops, State.port, job], by cases c <;> rfl⟩

theorem test_meets_StepTakesFront : { up with pending := [.rackPoll] }.pending = .rackPoll :: [] ∧ up.pending = [] := ⟨rfl, rfl⟩

/-- A state with one command waiting, and the state its step leads to. -/
def waiting (i : Instr) (s : State) : State := { s with pending := [i] }
def stepped (i : Instr) (s : State) : State := after i { s with pending := [] }

theorem test_meets_MemoryStaysCanonical : let s := waiting .rackPoll { up with mem := [(5, 0x00), (9, 0xFE)] }
    memoryCanonical s ∧ step s = .next (stepped .rackPoll { up with mem := [(5, 0x00), (9, 0xFE)] }) := ⟨rfl, rfl⟩

theorem test_meets_GrantsStayWithinBudget : budgetsHold (waiting .rackPoll charging)
    ∧ step (waiting .rackPoll charging) = .next (stepped .rackPoll charging) :=
  ⟨by unfold budgetsHold; decide +kernel, rfl⟩

theorem test_meets_QueuesStayBounded : let s := { up with tune := [⟨1, 16⟩, ⟨2, 0⟩] }
    (tuneQueueHolds (waiting .rackPoll s) ∧ noticeQueuesHold (waiting .rackPoll s))
      ∧ step (waiting .rackPoll s) = .next (stepped .rackPoll s) :=
  ⟨⟨by unfold tuneQueueHolds; decide +kernel, fun p => by cases p <;> decide +kernel⟩, rfl⟩

/-- A link table without units holds its law. -/
theorem linksHold_none {s : State} (h : s.links = Table.fill ⟨none, 0⟩) : linksHold s := by
  simp [linksHold, h]

theorem test_meets_SettingsStayInRange : (settingsHold (waiting .rackPoll up) ∧ siteCodeHolds (waiting .rackPoll up)
    ∧ linksHold (waiting .rackPoll up)) ∧ step (waiting .rackPoll up) = .next (stepped .rackPoll up) :=
  ⟨⟨by unfold settingsHold; decide +kernel, by unfold siteCodeHolds; decide +kernel, linksHold_none rfl⟩, rfl⟩

theorem test_meets_SignalsStayLawful : (presenceHolds (waiting .rackPoll onAir) ∧ samplesHold (waiting .rackPoll onAir))
    ∧ step (waiting .rackPoll onAir) = .next (stepped .rackPoll onAir) :=
  ⟨⟨by unfold presenceHolds; decide +kernel, by unfold samplesHold isSample; decide +kernel⟩, rfl⟩

theorem test_meets_GainsKeepTheirLaw : gainsHold (waiting .rackPoll onAir)
    ∧ step (waiting .rackPoll onAir) = .next (stepped .rackPoll onAir) :=
  ⟨by unfold gainsHold; decide +kernel, rfl⟩

theorem test_meets_BuffersStayBounded : buffersHold (waiting .rackPoll announcing)
    ∧ step (waiting .rackPoll announcing) = .next (stepped .rackPoll announcing) :=
  ⟨by unfold buffersHold; decide +kernel, rfl⟩

/-- Idle players, channels without a hold player and outside EMERGENCY, and emergency clear: the pool's records agree. -/
theorem poolHolds_idle {s : State} (hp : s.players = Table.fill idlePlayer) (he : s.emergency = resetEmergency)
    (hc : ∀ c, (s.channel c).holdPlayer = none ∧ (s.channel c).state ≠ .emergency) : poolHolds s := by
  refine ⟨fun c p h => by simp [(hc c).1] at h, ⟨fun p l h => ?_, fun c p h => ?_, fun p o h => ?_⟩, ?_⟩
  · simp [he, resetEmergency] at h
  · simp [he, resetEmergency] at h
  · simp [State.player, hp, idlePlayer] at h
  · simp [emergencyTakesAll, isRaised, he, resetEmergency, ownedBy, isBusy, State.player, hp, idlePlayer]
    exact fun c => (hc c).2

theorem test_meets_EmergencyTakesAll : poolHolds (waiting .rackPoll up)
    ∧ step (waiting .rackPoll up) = .next (stepped .rackPoll up) :=
  ⟨poolHolds_idle rfl rfl (by decide +kernel), rfl⟩

theorem test_meets_UnfitRequestsChangeNothing : let q : Req := ⟨.operations, false⟩
    (requestOf (.readUnit q 0) = some (.readUnit, q) ∧ handedOn .readUnit ((ask .readUnit up).port q.port) = true
      ∧ formFits .readUnit q (ask .readUnit up) = false ∧ handedOn .readUnit (up.port q.port) = false)
    ∧ (let s := askWith .saveSiteRecord [0] up;
      requestOf (.saveSiteRecord ops none) = some (.saveSiteRecord, ops) ∧ handedOn .saveSiteRecord (s.port ops.port) = true
        ∧ formFits .saveSiteRecord ops s = false) := by decide +kernel

theorem test_meets_ReadRequestsOnlyAnswer : InHand .identify ops (ask .identify up) ∧ InHand .readUnit ops (ask .readUnit up)
    ∧ InHand .readGroup ops (ask .readGroup up) ∧ InHand .readRack ops (ask .readRack up)
    ∧ (2 < 3 ∧ InHand .readChannelPlan ops (ask .readChannelPlan up))
    ∧ (1 ≤ 96 ∧ 96 ≤ 96 ∧ InHand .readDirectory ops (ask .readDirectory up))
    ∧ (let s := ask .readDirectory (withClip { clip1 with id := 96 } up);
        InHand .readDirectory ops s ∧ s.clip 96 = some { clip1 with id := 96 }) :=
  ⟨inHand _ _, inHand _ _, inHand _ _, inHand _ _, ⟨by decide, inHand _ _⟩, ⟨by decide, by decide, inHand _ _⟩, inHand _ _, rfl⟩

/-- The query of every enrolled unit with a charge of at least 0. -/
def anyUnit : SelectQuery := ⟨true, true, true, true, 0, some .charge, some .ge, 0, some .off, 0⟩

theorem test_meets_SelectUnitsListsMatches : InHand .selectUnits ops (ask .selectUnits up) ∧ anyUnit.field = some .charge
    ∧ anyUnit.relation = some .ge ∧ anyUnit.markTest = some .off ∧ { anyUnit with field := none }.field = none :=
  ⟨inHand _ _, rfl, rfl, rfl, rfl⟩

theorem test_meets_FetchNoticesTakesEight : InHand .fetchNotices ops (ask .fetchNotices up) := inHand _ _

/-- A full slot 63 with an unenrolled occupant of serial 7, asked to be enrolled. -/
def stranger (st : SlotState) : State :=
  ask .enrolUnit (withSlot 63 (fun sl => { sl with state := st, occupant := .unenrolled 7, charge := 1000 }) up)

theorem test_meets_EnrolmentWritesEntry :
    (let s := ask .enrolUnit up;
      InHand .enrolUnit ops s ∧ (0xFFFFFFFF : BitVec 32) ≠ 0 ∧ (s.unit 255).kind = .vacant
        ∧ (∀ v, (s.unit v).kind ≠ .vacant → (s.unit v).serial ≠ 0xFFFFFFFF) ∧ ∀ i, (s.slot i).occupant ≠ .unenrolled 0xFFFFFFFF)
    ∧ (∀ st, st ≠ .ready → let s := stranger st;
      InHand .enrolUnit ops s ∧ (7 : BitVec 32) ≠ 0 ∧ (s.unit 3).kind = .vacant ∧ (∀ v, (s.unit v).kind ≠ .vacant → (s.unit v).serial ≠ 7)
        ∧ (s.slot 63).occupant = .unenrolled 7 ∧ (∀ j, j.val < (63 : SlotIx).val → (s.slot j).occupant ≠ .unenrolled 7)
        ∧ (s.slot 63).state ≠ .ready)
    ∧ ((stranger .full).slot 63).state = .full ∧ ((stranger .bulk).slot 63).state ≠ .full
    ∧ (let s := ask .retireUnit (withUnit 4 receiver up);
      InHand .retireUnit ops s ∧ (s.unit 4).kind ≠ .vacant ∧ (s.unit 4).location ≠ .issued ∧ (s.unit 4).location ≠ .releasing
        ∧ (s.unit 4).assigned = none ∧ (s.unit 4).retired = false) := by
  refine ⟨⟨inHand _ _, by decide, by decide +kernel, fun v h => absurd ?_ h, fun i => ?_⟩, fun st hst => ?_, by decide +kernel,
    by decide +kernel, inHand _ _, by decide +kernel⟩
  · simp [ask, up, State.unit, State.reset, vacantEntry]
  · simp [ask, up, State.slot, resetSlot]
  · refine ⟨inHand _ _, by decide, rfl, fun v h => absurd ?_ h, rfl, fun j hj => ?_, hst⟩
    · simp [stranger, ask, withSlot, State.updSlot, up, State.unit, State.reset, vacantEntry]
    · have : j ≠ 63 := fun e => by simp [e] at hj
      simp [stranger, ask, withSlot, State.slot, State.updSlot, Table.get_upd_of_ne _ _ (Ne.symm this), up, resetSlot]

theorem test_meets_UnenrolUnitVacatesEntry :
    (InHand .unenrolUnit ops (ask .unenrolUnit up) ∧ ((ask .unenrolUnit up).unit 0).kind = .vacant)
    ∧ (let e := (ask .unenrolUnit touring).unit 4;
        InHand .unenrolUnit ops (ask .unenrolUnit touring) ∧ e.kind ≠ .vacant ∧ e.location ≠ .loose)
    ∧ (let e := (ask .unenrolUnit touring).unit 9;
        InHand .unenrolUnit ops (ask .unenrolUnit touring) ∧ e.kind ≠ .vacant ∧ e.kind = .guideMic ∧ e.assigned.isSome = true)
    ∧ (let e := (ask .unenrolUnit (withUnit 4 receiver up)).unit 4;
        InHand .unenrolUnit ops (ask .unenrolUnit (withUnit 4 receiver up)) ∧ e.kind ≠ .vacant ∧ e.location = .loose
          ∧ ¬ (e.kind = .guideMic ∧ e.assigned.isSome = true)
          ∧ ∀ v, v ≠ 4 → ((ask .unenrolUnit (withUnit 4 receiver up)).unit v).kind = .vacant
              ∨ ((ask .unenrolUnit (withUnit 4 receiver up)).unit v).serial ≠ e.serial) := by
  refine ⟨⟨inHand _ _, by decide +kernel⟩, ⟨inHand _ _, by decide +kernel⟩, ⟨inHand _ _, by decide +kernel⟩, inHand _ _,
    by decide +kernel, by decide +kernel, by decide +kernel, fun v hv => .inl ?_⟩
  simp [ask, withUnit, State.unit, State.updUnit, Table.get_upd_of_ne _ _ (Ne.symm hv), up, State.reset, vacantEntry]

theorem test_meets_SetUnitMarksWritesMarks : let s := ask .setUnitMarks (withUnit 4 { receiver with marks := 0x80 } up)
    InHand .setUnitMarks ops s ∧ (s.unit 4).kind ≠ .vacant
      ∧ (((s.unit 4).marks &&& ~~~0x0F) ||| 0x01).getLsbD 7 = (s.unit 4).marks.getLsbD 7 := ⟨inHand _ _, by decide +kernel⟩

theorem test_meets_ReportUnitsCountsRecords : let rs : List UnitReport := List.replicate 16 ⟨4, 1000, 100, true⟩
    InHand .reportUnits ops (ask .reportUnits touring) ∧ 1 ≤ rs.length ∧ rs.length ≤ 16 ∧ (∀ r ∈ rs, r.unit ≠ 5) :=
  ⟨inHand _ _, by decide⟩

theorem test_meets_RackLinkFollowsPolls :
    (charging.phase = .running ∧ (charging.rack 0).online = true ∧ (charging.rack 0).misses < 2)
    ∧ (let s := charging.updRack 3 fun a => { a with online := false };
        s.phase = .running ∧ (s.rack 3).online = false)
    ∧ (let s := charging.updRack 0 fun a => { a with misses := 1 };
        s.phase = .running ∧ (s.rack 0).online = true ∧ (s.rack 0).misses < 2)
    ∧ (let s := charging.updRack 0 fun a => { a with misses := 2 };
        s.phase = .running ∧ (s.rack 0).online = true ∧ 2 ≤ (s.rack 0).misses) := by decide +kernel

/-- Slot 0 of the rack in a charging phase: charge figure, its phase timer running at t. -/
def phased (st : SlotState) (c t : Nat) (fresh : Bool) : State :=
  withSlot 0 (fun sl => { sl with state := st, charge := c, timer := t, timerOn := true, topoffFresh := fresh }) charging

/-- A reading at which no monitor is violated, of a slot of an ONLINE rack. -/
def quietReading (rd : Reading) (s : State) : Bool :=
  s.phase == .running && (s.rack 0).online && rd.present && (s.slot (slotIx 0 0)).forced == noMonitors
    && decide (rd.voltage.toNat ≤ 4250 ∧ 0 ≤ rd.temperature.toInt ∧ rd.temperature.toInt ≤ 450 ∧ (s.slot (slotIx 0 0)).charge ≤ 999)

theorem test_meets_SlotReadingCounts :
    (let s := phased .bulk 948 0 false; quietReading ⟨true, 4149, 450, 2000⟩ s = true ∧ (s.slot (slotIx 0 0)).state = .bulk
      ∧ min 999 ((s.slot (slotIx 0 0)).charge + ((s.slot (slotIx 0 0)).acc + 10 * clampCurrent (2000 : Half).toInt)
          / (36 * capacity s (s.slot (slotIx 0 0)).occupant)) < 950)
    ∧ (let s := phased .bulk 999 0 false; quietReading ⟨true, 4250, 0, 0⟩ s = true ∧ (s.slot (slotIx 0 0)).state = .bulk ∧ 0 ∉ (s.rack 0).waits)
    ∧ (let s := phased .precharge 0 1798 false; quietReading ⟨true, 3299, 0, 100⟩ s = true ∧ (s.slot (slotIx 0 0)).state = .precharge
      ∧ (s.slot (slotIx 0 0)).timer + 1 < 1800)
    ∧ (let s := phased .precharge 0 1798 false; quietReading ⟨true, 3300, 0, 100⟩ s = true ∧ (s.slot (slotIx 0 0)).state = .precharge
      ∧ (s.slot (slotIx 0 0)).timer + 1 < 1800)
    ∧ (let s := phased .topoff 999 2698 false; quietReading ⟨true, 4200, 250, 100⟩ s = true ∧ (s.slot (slotIx 0 0)).state = .topoff
      ∧ (s.slot (slotIx 0 0)).timer + 1 < 2700 ∧ s.charge.taper ≤ clampCurrent (100 : Half).toInt)
    ∧ (let s := phased .topoff 999 2699 true; quietReading ⟨true, 4200, 250, 100⟩ s = true ∧ (s.slot (slotIx 0 0)).state = .topoff
      ∧ 2700 ≤ (s.slot (slotIx 0 0)).timer + 1 ∧ (s.slot (slotIx 0 0)).occupant = .enrolled 4)
    ∧ (let s := phased .topoff 999 0 false; quietReading ⟨true, 4200, 250, 10⟩ s = true ∧ (s.slot (slotIx 0 0)).topoffFresh = false
      ∧ clampCurrent (10 : Half).toInt < s.charge.taper)
    ∧ (⟨false, 0, 0, 0⟩ : Reading).present = false ∧ (charging.slot (slotIx 0 0)).state ≠ .empty
    ∧ (charging.slot (slotIx 0 0)).state ≠ .offline := by
  refine ⟨?_, ?_, ?_, ?_, ?_, ?_, ?_, by decide +kernel⟩ <;> decide +kernel

theorem test_meets_ViolatedMonitorFaults : charging.phase = .running ∧ (charging.rack 0).online = true
    ∧ (let rd : Reading := ⟨true, 4251, 0xFFFF, 500⟩;
      rd.present = true ∧ (charging.slot (slotIx 0 0)).state = .bulk ∧ 4250 < rd.voltage.toNat ∧ rd.temperature.toInt < 0)
    ∧ ((phased .precharge 0 1799 false).slot (slotIx 0 0)).state = .precharge
    ∧ (let s := phased .ready 1000 0 false; (s.slot (slotIx 0 0)).state = .ready ∧ (s.slot (slotIx 0 0)).occupant = .enrolled 4)
    ∧ ((withSlot 0 (fun sl => { sl with state := .full, forced := ⟨false, false, false, true⟩ }) charging).slot (slotIx 0 0)).forced
        ≠ noMonitors := by decide +kernel

theorem test_meets_IdentificationSettlesOccupant : let s := fun n => withSlot 63 (fun sl => { startIdentify sl with attempts := n }) up
    ((s 1).slot (slotIx 3 15)).state = .identify ∧ ((s 1).slot (slotIx 3 15)).attempting = true
      ∧ ((s 1).slot (slotIx 3 15)).attempts < 2 ∧ ((s 2).slot (slotIx 3 15)).state = .identify
      ∧ ((s 2).slot (slotIx 3 15)).attempting = true ∧ 2 ≤ ((s 2).slot (slotIx 3 15)).attempts := by decide +kernel

theorem test_meets_EstimateInterpolates : 3299 < 3300 ∧ 4150 ≤ 4150 ∧ 4050 ≤ 4149 ∧ 4149 < 4150 := by decide

theorem test_meets_SlotRequestsActOnSlot :
    (InHand .forceMonitor ops (ask .forceMonitor charging) ∧ ((ask .forceMonitor charging).slot (slotIx 0 0)).state ≠ .empty)
    ∧ (let s := ask .clearSlotFault (withSlot 0 (fun sl => { sl with state := .fault }) charging);
        InHand .clearSlotFault ops s ∧ (s.slot (slotIx 0 0)).state = .fault ∧ (s.slot (slotIx 0 0)).occupant = .enrolled 4) :=
  ⟨⟨inHand _ _, by decide +kernel⟩, inHand _ _, by decide +kernel⟩

theorem test_meets_SetRackBudgetFits : InHand .setRackBudget ops (ask .setRackBudget charging) := inHand _ _

theorem test_meets_RevocationIsShortest : revokedGrants 999 [⟨0, 500⟩, ⟨1, 500⟩] = [⟨1, 500⟩] := by decide

theorem test_meets_EvaluationGrantsFromHead :
    let s := withSlot 2 (fun sl => { sl with state := .waitBudget, pending := some .bulk }) (charging.updRack 0 fun a => { a with waits := [2] });
    ((evaluate 0 s).rack 0).waits = [2] ∧ ((evaluate 0 s).slot (slotIx 0 2)).pending = some .bulk := by decide +kernel

theorem test_meets_SettingsAreClamped : InHand .setChargeSettings ops (ask .setChargeSettings up)
    ∧ InHand .setIssueSettings ops (ask .setIssueSettings up) := ⟨inHand _ _, inHand _ _⟩

theorem test_meets_IssueUnitTakesHead : let s := ask .issueUnit (issuing.updGroup 11 fun _ => ⟨.opened, some 9, some 3, 0, some 0⟩)
    InHand .issueUnit ops s ∧ s.ready = [4] ∧ (s.channel 3).state = .hold ∧ (s.group 11).state = .opened
      ∧ (s.group 11).channel = some 3 := ⟨inHand _ _, by decide +kernel⟩

theorem test_meets_ClockJudgesDeadlines : InHand .setTime ops (ask .setTime touring) ∧ touring.phase = .running := ⟨inHand _ _, rfl⟩

theorem test_meets_WindowExpiryReturnsUnit :
    (let s := withSlot 18 (fun sl => { sl with state := .releasing }) issuing;
      (s.slot (slotIx 1 2)).state = .releasing ∧ (s.slot (slotIx 1 2)).occupant = .enrolled 4 ∧ eligible s 4 = true)
    ∧ (let s := withUnit 4 { receiver with retired := true } (withSlot 18 (fun sl => { sl with state := .releasing }) issuing);
      (s.slot (slotIx 1 2)).state = .releasing ∧ (s.slot (slotIx 1 2)).occupant = .enrolled 4 ∧ eligible s 4 = false)
    ∧ (let s := withSlot 18 (fun sl => { sl with state := .releasing, occupant := .unenrolled 7 }) up;
      (s.slot (slotIx 1 2)).state = .releasing ∧ ∀ u, (s.slot (slotIx 1 2)).occupant ≠ .enrolled u) := by decide +kernel

theorem test_meets_OpenGroupBinds : let s := ask .openGroup { (withUnit 9 mic up) with
      groups := Table.ofFn fun g => if g = 11 then freeGroup else ⟨.opened, some 1, some 0, 0, some 0⟩ }
    InHand .openGroup ops s ∧ (s.unit 9).kind = .guideMic ∧ (s.unit 9).retired = false ∧ (s.unit 9).assigned = none
      ∧ (s.channel 11).config.mode = .group ∧ (s.channel 11).group = none ∧ (s.group 11).state = .free
      ∧ (∀ g', g'.val < (11 : GroupNo).val → (s.group g').state ≠ .free) := ⟨inHand _ _, by decide +kernel⟩

theorem test_meets_CloseGroupEndsOrCaps :
    (let s := ask .closeGroup (touring.updGroup 0 fun g => { g with members := 0 });
      InHand .closeGroup ops s ∧ (s.group 0).state = .opened ∧ (s.group 0).members = 0 ∧ (s.group 0).channel = some 2
        ∧ (s.group 0).mic = some 9)
    ∧ (let s := ask .closeGroup touring;
      InHand .closeGroup ops s ∧ (s.group 0).state = .opened ∧ (s.group 0).members ≠ 0 ∧ (s.unit 4).location = .issued
        ∧ (s.unit 4).group = some 0 ∧ (s.unit 4).deadline = some 5000)
    ∧ (let s := ask .closeGroup (touring.updGroup 0 fun g => { g with state := .closing });
      InHand .closeGroup ops s ∧ (s.group 0).state = .closing ∧ (s.group 0).members ≠ 0) :=
  ⟨⟨inHand _ _, by decide +kernel⟩, ⟨inHand _ _, by decide +kernel⟩, inHand _ _, by decide +kernel⟩

theorem test_meets_MoveGroupMovesMembers : let s := ask .moveGroup touring
    InHand .moveGroup ops s ∧ (s.group 0).state ≠ .free ∧ (s.group 0).channel = some 2 ∧ (11 : ChanNo) ≠ 2
      ∧ (s.channel 11).config.mode = .group ∧ (s.channel 11).group = none := ⟨inHand _ _, by decide +kernel⟩

theorem test_meets_TuneQueueDrains : InHand .fetchTuneOrders ops (ask .fetchTuneOrders up)
    ∧ InHand .readTuneMap ops (ask .readTuneMap up) ∧ 7 ≤ 7 ∧ 7 < 8 := ⟨inHand _ _, inHand _ _, by decide, by decide⟩

/-- n orders, for units 1 to n. -/
def queued (n : Nat) : State := { up with tune := (List.range n).map fun k => ⟨Fin.ofNat 256 (k + 1), 16⟩ }

theorem test_meets_OrdersKeepTheirPlace : (queued 1).tune[0]? = some ⟨1, 16⟩ ∧ (∃ o ∈ (queued 1).tune, o.unit = 1)
    ∧ (∀ o ∈ (queued 63).tune, o.unit ≠ 0) ∧ (queued 63).tune.length < 64
    ∧ (∀ o ∈ (queued 64).tune, o.unit ≠ 0) ∧ 64 ≤ (queued 64).tune.length := by decide +kernel

theorem test_meets_GuideReportRewritesTable : let fits := fun rs : List LinkReport => 1 ≤ rs.length ∧ rs.length ≤ 8 ∧ ∀ r ∈ rs, r.input ≤ 7
    InHand .reportGuideLinks ops (ask .reportGuideLinks touring) ∧ fits [⟨7, true, 9, 255⟩]
      ∧ ((ask .reportGuideLinks touring).channel 2).group.isSome = true ∧ fits (List.replicate 8 ⟨0, false, 9, 100⟩)
      ∧ 8 < (List.replicate 9 (⟨0, false, 9, 255⟩ : LinkReport)).length
      ∧ ((List.replicate 8 (⟨8, true, 9, 100⟩ : LinkReport)).length ≤ 8
          ∧ ∃ r ∈ List.replicate 8 (⟨8, true, 9, 100⟩ : LinkReport), 7 < r.input) := ⟨inHand _ _, by decide +kernel⟩

/-- Emergency raised: player 0 plays the default clip for channel 3 and player 1 serves English; every other channel is OFF. -/
def evacuating : State :=
  let playing : Player := { idlePlayer with state := .playing, owner := some .emergency, clip := some 1 }
  { (raisedState.updChannel 3 fun ch => { ch with state := .emergency, config := { ch.config with mode := .fixed } }).updMix 3
      fun _ => ⟨100, 16384, 0⟩ with
    players := (up.players.set 0 { playing with channels := [3] }).set 1 playing
    emergency := { raisedState.emergency with
      serves := up.emergency.serves.set 1 (some ⟨0x65, 0x6E⟩), assigned := up.emergency.assigned.set 3 (some 0) } }

theorem poolHolds_evacuating : poolHolds evacuating := by
  refine ⟨fun c p h => ?_, ⟨fun p l h => ?_, by decide +kernel, fun p o _ _ => ?_⟩, by unfold emergencyTakesAll; decide +kernel⟩
  · exact absurd h ((by decide +kernel : ∀ c p, (evacuating.channel c).holdPlayer ≠ some p) c p)
  · exact (by decide +kernel : ∀ p, (evacuating.emergency.serves.get p).isSome = true → ownedBy .emergency (evacuating.player p) = true) p
      (by simpa using congrArg Option.isSome h)
  · exact (by decide +kernel : ∀ p, (evacuating.player p).loops = 0) p

theorem test_meets_SetChannelWritesRecord : let s := ask .setChannel onAir
    let f : ChannelForm := { form with mixList := [⟨8, 1⟩, ⟨9, 2⟩, ⟨14, 3⟩, ⟨15, 65535⟩], duckLevel := 65535, holdClip := 96 };
    let g : ChannelForm := { form with mode := some .fixed, fixedSource := 15 };
    (InHand .setChannel ops s ∧ (f.mode = some .group ∧ f.mixList.length ≤ 4 ∧ formRefusal f .group = none)
      ∧ (g.mode = some .fixed ∧ g.mixList.length ≤ 4 ∧ formRefusal g .fixed = none ∧ (s.channel 3).group = none)
      ∧ isRaised s = false ∧ (s.channel 3).state ≠ .emergency)
    ∧ (let e := ask .setChannel evacuating;
      InHand .setChannel ops e ∧ poolHolds e ∧ isRaised e = true ∧ (e.channel 3).state = .emergency ∧ (e.channel 3).group = none
        ∧ (e.channel 4).state = .off ∧ (e.channel 4).group = none ∧ e.emergency.assigned.get 3 = some 0) :=
  ⟨⟨inHand _ _, by decide +kernel⟩, inHand _ _, poolHolds_evacuating, by decide +kernel⟩

/-- 10 R178: a channel that stays in EMERGENCY is assigned again from its new language, and 07 R134 restarts its duck alone. -/
theorem test_set_channel_in_emergency : let f : ChannelForm := { form with mode := some .fixed, language := ⟨0x65, 0x6E⟩ };
    let t := after (.setChannel ops 3 f) (ask .setChannel evacuating)
    t.emergency.assigned.get 3 = some 1 ∧ (t.player 0).channels = [] ∧ (t.player 1).channels = [3]
      ∧ t.mix.get 3 = ⟨32768, 16384, 0⟩ := by decide +kernel

theorem test_meets_AudioFrameComputes : (let s := { onAir with window := 3999 };
    s.phase = .running ∧ s.window < 4000 ∧ (s.channel 0).state = .off ∧ (s.channel 3).state = .live) ∧ State.reset.phase = .startUp
    ∧ (evacuating.phase = .running ∧ evacuating.window < 4000 ∧ (evacuating.channel 3).state = .emergency) := by
  decide +kernel

theorem test_meets_WindowEndTrims : let s := { up with window := 4000 }
    s.phase = .running ∧ 4000 ≤ s.window := by decide +kernel

theorem test_meets_MixArithmeticIsRounded : (let e : Entry := ⟨-32767, 65535⟩;
    -32767 ≤ e.sample ∧ e.sample ≤ 32767 ∧ e.gain ≤ 65535) ∧ (⟨32767, 16384⟩ : Entry).gain = 16384 ∧ (⟨32767, 0⟩ : Entry).gain = 0
    ∧ 32768 ≤ 32768 ∧ (-655330 : Int).natAbs ≤ 655330 ∧ (-786396 : Int).natAbs ≤ 786396 := by decide

theorem test_meets_CodeExpands : (announcing.player 0).state = .playing ∧ (announcing.player 0).buffer = 0x0F :: [] := by
  decide +kernel

/-- Every player plays: 0 to 4 announce, 5 is owned by HOLD for channel 2. -/
def allBusy : State :=
  { announcing with players := Table.ofFn fun p =>
      if p = 5 then { idlePlayer with state := .playing, owner := some .hold, clip := some 1, channels := [2] }
      else { idlePlayer with state := .playing, owner := some .announce, clip := some 1, loops := 1, channels := [3] } }

/-- The largest announcement of 09 R167, of clip 1: 15 loops, every channel. -/
def allChannels : List Nat := [0, 1, 2, 3, 4, 5, 6, 7, 8, 9, 10, 11]

theorem test_meets_AnnouncementsStartAndStop :
    (InHand .stopPlayer ops (ask .stopPlayer up) ∧ ((ask .stopPlayer up).player 5).state = .idle)
    ∧ (InHand .stopPlayer ops (ask .stopPlayer announcing) ∧ ((ask .stopPlayer announcing).player 0).state ≠ .idle
        ∧ ((ask .stopPlayer announcing).player 0).owner = some .announce)
    ∧ (let s := ask .startAnnouncement (withClip { clip1 with id := 96 } up);
      InHand .startAnnouncement ops s ∧ 1 ≤ 96 ∧ 96 ≤ 96 ∧ 1 ≤ 15 ∧ 15 ≤ 15 ∧ 1 ≤ allChannels.length ∧ allChannels.length ≤ 12
        ∧ (∀ c ∈ allChannels, c ≤ 11) ∧ allChannels.Nodup ∧ clipIsValid s 96 = true ∧ isRaised s = false
        ∧ (s.player 0).state = .idle ∧ ∀ p', p'.val < (0 : PlayerNo).val → (s.player p').state ≠ .idle)
    ∧ (let s := ask .startAnnouncement allBusy;
      InHand .startAnnouncement ops s ∧ clipIsValid s 1 = true ∧ isRaised s = false ∧ (∀ p', (s.player p').state ≠ .idle)
        ∧ (s.player 5).owner = some .hold ∧ ∀ p', p'.val < (5 : PlayerNo).val → (s.player p').owner ≠ some .hold) :=
  ⟨⟨inHand _ _, by decide +kernel⟩, ⟨inHand _ _, by decide +kernel⟩, ⟨inHand _ _, by decide +kernel⟩, inHand _ _, by decide +kernel⟩

theorem test_meets_RaisingTakesChannels : let s := ask .raiseEmergency up
    isRaised s = false ∧ poolHolds s ∧ InHand .raiseEmergency ops s ∧ s.phase = .running ∧ s.emergency.input = false :=
  ⟨rfl, poolHolds_idle rfl rfl (by decide +kernel), inHand _ _, rfl, rfl⟩

theorem test_meets_ClearingReturnsChannels : let s := ask .clearEmergency raisedState
    InHand .clearEmergency ops s ∧ s.emergency.raised = some ⟨.request, 0⟩ ∧ s.emergency.input = false := ⟨inHand _ _, rfl, rfl⟩

theorem test_meets_PinsFollowState : (up.phase = .running ∧ (false = false ∨ isRaised up = true))
    ∧ (raisedState.phase = .running ∧ isRaised raisedState = true) ∧ State.reset.phase = .startUp := by decide +kernel

theorem test_meets_ProgramRequestsStart :
    (let s := ask .beginClip (withStore (fun t => { t with state := .suspendedHeld }) up);
      s.store.state = .suspendedHeld ∧ s.store.save = none ∧ InHand .beginClip ops s ∧ 1 ≤ 96 ∧ 96 ≤ 96 ∧ s.clip 96 = none
        ∧ takeBlock s .standard = .ok 32)
    ∧ (let c : Clip := { clip1 with state := .writing, total := 130863 };
       let s := ask .appendAudio (withClip c up);
       let codes : List Byte := List.replicate 192 0x0F;
      InHand .appendAudio ops s ∧ 1 ≤ codes.length ∧ codes.length ≤ 192 ∧ s.clip c.id = some c ∧ c.state = .writing
        ∧ c.blocks.getLast? = some 32 ∧ mayWrite s 32 = true
        ∧ c.total - 131056 * (c.blocks.length - 1) + codes.length < 131056)
    ∧ (let c : Clip := { clip1 with state := .writing, total := 130864 };
       let s := ask .appendAudio (withClip c up);
      InHand .appendAudio ops s ∧ s.clip c.id = some c ∧ c.blocks.getLast? = some 32 ∧ mayWrite s 32 = true
        ∧ c.total - 131056 * (c.blocks.length - 1) + 192 = 131056)
    ∧ (let c : Clip := { clip1 with state := .writing, total := 131056, blocks := [32] };
       let s := ask .appendAudio (withClip c { up with blocks := up.blocks.set 32 .written });
      InHand .appendAudio ops s ∧ s.clip c.id = some c ∧ c.blocks.getLast? = some 32 ∧ mayWrite s 32 = true
        ∧ 131056 < c.total - 131056 * (c.blocks.length - 1) + 1 ∧ c.blocks.length < 16 ∧ takeBlock s c.cls = .ok 33)
    ∧ (let c : Clip := { clip1 with state := .writing, total := 1 };
       let s := ask .sealClip (withClip c up);
      InHand .sealClip ops s ∧ s.clip c.id = some c ∧ c.state = .writing ∧ c.total ≠ 0 ∧ ∀ b ∈ c.blocks, mayWrite s b = true)
    ∧ (let s := ask .deleteClip (withClip clip1 up);
      InHand .deleteClip ops s ∧ s.clip clip1.id = some clip1 ∧ clip1.state ≠ .stale ∧ playing s clip1.id = none
        ∧ ∀ b ∈ clip1.blocks, mayWrite s b = true) :=
  ⟨⟨rfl, rfl, inHand _ _, by decide, by decide, by decide +kernel, rfl⟩, ⟨inHand _ _, by decide +kernel⟩,
   ⟨inHand _ _, by decide +kernel⟩, ⟨inHand _ _, by decide +kernel, rfl, by decide +kernel, by decide, by decide, rfl⟩,
   ⟨inHand _ _, by decide +kernel⟩, inHand _ _, by decide +kernel⟩

/-- A program operation entered from READY for a request of the Operations port, clip 1 WRITING. -/
def programming (cells : List (Nat × Byte)) (job' : ProgramJob) : State :=
  ask .beginClip (withStore (fun t => { t with state := .programming, op := some ⟨cells, job', some .operations⟩ }) writing)

/-- The operation in progress meets the statement's hypotheses, and every byte reads as intended or not. -/
def endsWell (cells : List (Nat × Byte)) (job' : ProgramJob) (good : Bool) (faults : List (Nat × Byte)) : Bool :=
  let s := programming cells job'
  s.store.state == .programming && s.store.returnTo == .ready && s.store.op == some ⟨cells, job', some .operations⟩
    && s.path.inService.isNone && verified (programmed s.mem cells faults) cells == good
    && (s.port .operations).state == .executing (job .beginClip)

theorem test_meets_ProgramDoneCommits : let c : Clip := { clip1 with state := .writing, total := 131055 }
    endsWell [(4325376, 0x4E)] (.begin 2 ⟨0, 0⟩ .standard 33) true [] = true
    ∧ endsWell [(4325375, 0x35)] (.append 1 1 none) true [] = true ∧ endsWell [(4325375, 0x35)] (.append 1 2 (some 33)) true [] = true
    ∧ endsWell [(4194318, 0x00)] (.seal 1) true [] = true ∧ endsWell [(4194319, 0x00)] (.delete 1) true [] = true
    ∧ endsWell [(0, 0x01)] .record false [(0, 0x00)] = true
    ∧ [ProgramJob.begin 2 ⟨0, 0⟩ .standard 33, .append 1 2 (some 33), .seal 1, .delete 1].all
        (fun j => endsWell [(4325375, 0x35)] j false [(4325375, 0x34)]) = true
    ∧ (programming [] (.seal 1)).clip c.id = some c ∧ c.blocks.getLast? = some 32 ∧ (33 : BlockNo).val ≠ 0
    ∧ 4325375 / 131072 = (32 : BlockNo).val ∧ up.phase = .running ∧ (up.port .desk).enabled = true
    ∧ (up.port .desk).mask.getLsbD 19 = true ∧ (up.port .desk).queue = [] := by decide +kernel

theorem test_meets_ProgrammingOnlyClears : Memory.wf [(3, 0x0F)] = true ∧ (byteAt (programCells [(3, 0x0F)] [(3, 0xF1)]) 3).getLsbD 0 = true
    ∧ (∀ c ∈ [((3 : Nat), (0xF1 : Byte))], c.1 ≠ 4) := by decide

theorem test_meets_EraseBatchRuns :
    (let s := ask .eraseBlock (withClip { clip1 with state := .stale } up);
      memoryCanonical s ∧ InHand .eraseBlock ops s ∧ (32 : BlockNo).val ≠ 0 ∧ s.store.state = .ready ∧ s.store.save = none
        ∧ (∀ c ∈ s.directory, (32 : BlockNo) ∈ c.blocks → c.state = .stale) ∧ mayWrite s 32 = true)
    ∧ (memoryCanonical gathering ∧ gathering.store.state = .gathering ∧ gathering.store.stage = .notBegun)
    ∧ (let s := withStore (fun t => { t with state := .erasing, stage := .marking }) gathering;
      memoryCanonical s ∧ s.store.state = .erasing ∧ s.store.stage = .marking ∧ s.path.inService = none)
    ∧ (memoryCanonical erasing ∧ erasing.store.state = .erasing ∧ erasing.store.stage = .erasing ∧ erasing.path.inService = none
        ∧ erasing.store.save = none ∧ (33 : BlockNo).val ≠ 0 ∧ erasing.store.inHand = some 33) :=
  ⟨⟨rfl, inHand _ _, by decide +kernel⟩, ⟨rfl, by decide +kernel⟩, ⟨rfl, by decide +kernel⟩, rfl, by decide +kernel⟩

theorem test_meets_SuspensionHoldsErase :
    (InHand .suspendStore ops (ask .suspendStore gathering) ∧ (ask .suspendStore gathering).store.state = .gathering)
    ∧ (InHand .suspendStore ops (ask .suspendStore erasing) ∧ (ask .suspendStore erasing).store.state = .erasing
        ∧ (ask .suspendStore erasing).store.stage = .erasing)
    ∧ (let s := ask .suspendStore (withStore (fun t => { t with state := .suspending, target := .held, suspendWaiter := some .operations }) erasing);
      s.store.state = .suspending ∧ s.store.target = .held ∧ s.store.suspendWaiter = some .operations
        ∧ (s.port .operations).state = .executing (job .suspendStore))
    ∧ (let s := ask .resumeStore (withStore (fun t => { t with state := .suspendedHeld }) erasing);
      InHand .resumeStore ops s ∧ s.store.state = .suspendedHeld ∧ s.store.stage = .erasing ∧ pathQuiet s = true)
    ∧ (let s := withStore (fun t => { t with state := .suspendedAuto }) erasing;
      s.store.state = .suspendedAuto ∧ s.store.stage = .erasing ∧ pathQuiet s = true) :=
  ⟨⟨inHand _ _, by decide +kernel⟩, ⟨inHand _ _, by decide +kernel⟩, by decide +kernel, ⟨inHand _ _, by decide +kernel⟩, by decide +kernel⟩

theorem test_meets_ReadPathServesInTurn :
    (InHand .readStore ops (ask .readStore up) ∧ 1 ≤ 240 ∧ 240 ≤ 240 ∧ 130832 + 240 ≤ 131072 ∧ erasesBlock (ask .readStore up) = false)
    ∧ (let s := rawWaits.updPlayer 2 fun q => { q with state := .filling, read := .waiting };
      s.path.inService = none ∧ servesReads s.store.state = true ∧ readWaits s 2 = true
        ∧ ∀ j : Fin 7, readWaits s j = true →
          ((2 : Fin 7).val + 6 - s.path.lastServed.val) % 7 ≤ (j.val + 6 - s.path.lastServed.val) % 7)
    ∧ (let s := { rawWaits with path := { rawWaits.path with inService := some 6 } };
      s.path.inService = some 6 ∧ s.path.raw = some ⟨32, 0, 2, .operations⟩
        ∧ (s.port .operations).state = .executing (job .readStore))
    ∧ (let s := { announcing with path := { up.path with inService := some 0 } };
      s.path.inService = some (pathPosition 0) ∧ s.path.discard = false) :=
  ⟨⟨inHand _ _, by decide +kernel⟩, by decide +kernel, by decide +kernel, by decide +kernel⟩

theorem test_meets_ProtectionIsWritten : (InHand .protectGroup ops (ask .protectGroup up) ∧ (ask .protectGroup up).store.batch = [])
    ∧ (let s := ask .protectGroup (withStore (fun t => { t with batch := [⟨33, false⟩, ⟨48, false⟩] }) gathering);
      InHand .protectGroup ops s ∧ s.store.state = .gathering ∧ s.store.inHand = none
        ∧ s.store.batch.filter (fun e => !(e.block.val / 16 == (2 : Fin 16).val && !e.keyed)) ≠ [])
    ∧ (let s := ask .protectGroup gathering;
      InHand .protectGroup ops s ∧ s.store.state = .gathering ∧ s.store.inHand = none ∧ s.store.save = none
        ∧ s.store.batch.filter (fun e => e.block.val / 16 == (2 : Fin 16).val && !e.keyed) ≠ []
        ∧ s.store.batch.filter (fun e => !(e.block.val / 16 == (2 : Fin 16).val && !e.keyed)) = []
        ∧ s.phase = .running ∧ (s.port .desk).enabled = true ∧ (s.port .desk).mask.getLsbD 18 = true ∧ (s.port .desk).queue.length < 16)
    ∧ (let s := ask .protectGroup (withStore (fun t => { t with batch := [⟨33, false⟩, ⟨40, true⟩] }) erasing);
      let e : BatchEntry := ⟨33, false⟩;
      InHand .protectGroup ops s ∧ s.store.state = .erasing ∧ s.store.stage = .erasing ∧ s.store.inHand = some e.block
        ∧ e ∈ s.store.batch.filter (fun e => e.block.val / 16 == (2 : Fin 16).val && !e.keyed)
        ∧ (∀ d ∈ s.store.batch.filter (fun e => !(e.block.val / 16 == (2 : Fin 16).val && !e.keyed)), d.block ≠ e.block)
        ∧ s.store.batch.filter (fun e => !(e.block.val / 16 == (2 : Fin 16).val && !e.keyed)) ≠ [])
    ∧ (InHand .unprotectGroup ops (ask .unprotectGroup { up with key := true }) ∧ (ask .unprotectGroup { up with key := true }).key = true)
    ∧ (InHand .unprotectGroup ops (ask .unprotectGroup up) ∧ (ask .unprotectGroup up).prot.getLsbD (15 : Fin 16).val = false) :=
  ⟨⟨inHand _ _, rfl⟩, ⟨inHand _ _, by decide +kernel⟩, ⟨inHand _ _, by decide +kernel⟩, ⟨inHand _ _, by decide +kernel⟩,
   ⟨inHand _ _, rfl⟩, inHand _ _, by decide +kernel⟩

theorem test_meets_SaveRunsToItsNotice :
    (let s := ask .saveSiteRecord { up with key := true };
     let f := Option.getD none (⟨s.siteCode, s.emergency.defaultClip.getD 0, s.emergency.languages⟩ : SaveForm);
      InHand .saveSiteRecord ops s ∧ requestParams (s.port ops.port) = [] ∧ 1 ≤ f.siteCode ∧ f.siteCode ≤ 4095 ∧ f.defaultClip ≤ 96
        ∧ s.store.state = .ready ∧ s.store.save = none ∧ mayWrite s 0 = true)
    ∧ (let tags : List Byte := [0x65, 0x6E, 0, 0, 0, 0, 0, 0, 0, 0x7A];
     let f : SaveForm := ⟨4095, 96, Table.ofFn fun i => if i = 0 then ⟨0x65, 0x6E⟩ else if i = 4 then ⟨0, 0x7A⟩ else ⟨0, 0⟩⟩;
     let s := askWith .saveSiteRecord (0xFF :: 0x0F :: 96 :: tags) { up with key := true };
      handedOn .saveSiteRecord (s.port ops.port) = true ∧ formFits .saveSiteRecord ops s = true
        ∧ requestParams (s.port ops.port) = 0xFF :: 0x0F :: 96 :: tags ∧ tags.length = 10
        ∧ f.siteCode = (0xFF : Byte).toNat + 256 * (0x0F : Byte).toNat ∧ f.defaultClip = (96 : Byte).toNat
        ∧ (∀ i : Fin 5, tags[2 * i.val]? = some (f.languages.get i).first ∧ tags[2 * i.val + 1]? = some (f.languages.get i).second)
        ∧ f.siteCode ≤ 4095 ∧ f.defaultClip ≤ 96 ∧ s.store.state = .ready ∧ s.store.save = none ∧ mayWrite s 0 = true)
    ∧ (let s := ask .saveSiteRecord up;
      InHand .saveSiteRecord ops s ∧ requestParams (s.port ops.port) = [] ∧ some (⟨1, 0, Table.fill ⟨0, 0⟩⟩ : SaveForm) ≠ none)
    ∧ (let v : Save := ⟨[], 4095, some .saved⟩;
     let s := withStore (fun t => { t with save := some v }) up;
      s.store.save = some v ∧ v.outcome = some .saved ∧ s.phase = .running ∧ (s.port .desk).enabled = true
        ∧ (s.port .desk).mask.getLsbD 20 = true ∧ (s.port .desk).queue.length < 16) :=
  ⟨⟨inHand _ _, by decide +kernel⟩, by decide +kernel, ⟨inHand _ _, by decide +kernel⟩, by decide +kernel⟩

theorem test_meets_PortOptionsAreReplaced : let s := ask .setPortOptions { up with transmitter := { up.transmitter with enabled := false } }
    InHand .setPortOptions ops s ∧ (portOf 2 = some .operations ∧ (s.port .operations).enabled = true)
      ∧ (portOf 0 = some .desk ∧ (s.port .desk).enabled = true ∧ PortId.desk ≠ ops.port) ∧ portOf 3 = none
      ∧ portOf 1 = some .transmitter ∧ (s.port .transmitter).enabled = false := ⟨inHand _ _, by decide +kernel⟩

theorem test_meets_AdmissionInOrder : (State.reset.port .desk).enabled = true ∧ (State.reset.port .desk).state = .starting
    ∧ (up.port .desk).enabled = true ∧ (up.port .desk).state = .idle
    ∧ ((ask .identify up).port .operations).state = .executing (job .identify)
    ∧ ((after (.identify ops) (ask .identify up)).port .operations).state
        = .ready ⟨.ok, noCond, 0x5A, .identity ⟨true, true, true⟩ ⟨true, true, true⟩ 0 1 false 0⟩ := by decide +kernel

theorem test_meets_ReadTransferSendsFrame :
    (let s := { up with desk := { up.desk with state := .ready ⟨.ok, noCond, 1, .none⟩ } };
      (s.port .desk).enabled = true ∧ s.phase ≠ .held ∧ (s.port .desk).state = .ready ⟨.ok, noCond, 1, .none⟩
        ∧ 5 < (frameOf (s.port .desk)).length ∧ (frameOf (s.port .desk)).length ≤ 6)
    ∧ (State.reset.port .desk).state = .starting ∧ (up.port .desk).state = .idle ∧ (frameOf (up.port .desk)).length ≤ 6
    ∧ (let s := ask .identify up;
      (s.port .operations).enabled = true ∧ s.phase ≠ .held ∧ (s.port .operations).state = .executing (job .identify)
        ∧ (frameOf (s.port .operations)).length ≤ 7)
    ∧ ({ up.desk with enabled := false }.enabled = false) ∧ { up with phase := .held }.phase = .held := by decide +kernel

theorem test_meets_ResetsBeginStartUp : { up with phase := .held }.phase = .held ∧ InHand .resetPart ops (ask .resetPart up) :=
  ⟨rfl, inHand _ _⟩

theorem test_meets_StartUpOpensPorts : let s := { State.reset with startUp := ⟨Table.fill true, Table.fill true, 0⟩ }
    s.phase = .startUp ∧ (∀ r, s.startUp.polled.get r = true) ∧ (∀ i, ¬((s.slot i).state = .identify ∧ (s.slot i).attempting = true))
      ∧ (s.port .desk).enabled = true ∧ (s.port .desk).state = .starting ∧ (s.port .desk).queue = [] ∧ isRaised s = false
      ∧ s.emergency.input = false := by decide +kernel

end Sys2Proof.Tests
end

section
/-! PROOFS. Rules that every proof about a request uses: what serving a request in hand answers, which frames an answer and a notice
keep, and what a search over every number finds. -/

namespace Sys2Proof.Machine

/-! ## Serving a request in hand -/

/-- A request in hand is answered with what its owner's body hands back. -/
theorem InHand.serve {cmd : Command} {q : Req} {s t : State} {a : Answer} {body : State → State × Option Answer}
    (h : InHand cmd q s) (hb : body s = done t a) : serve cmd q body s = answerPort q.port a t :=
  serve_done h.1 h.2 hb

/-- A port's own state, its queue and options aside, as in the state before. -/
def SamePortStates (s t : State) : Prop := ∀ p, (t.port p).state = (s.port p).state

theorem SamePortStates.refl (s : State) : SamePortStates s s := fun _ => rfl

theorem SamePortStates.trans {s t u : State} (h : SamePortStates s t) (k : SamePortStates t u) : SamePortStates s u :=
  fun p => (k p).trans (h p)

theorem takeNotice_state (n : Notice) (p : Port) : (takeNotice n p).state = p.state := by
  unfold takeNotice
  repeat' split
  all_goals rfl

theorem queueNotice_samePortStates (k : NoticeKind) (j : Subject) (d : Detail) (s : State) :
    SamePortStates s (queueNotice k j d s) := by
  intro p
  simp only [queueNotice, State.eachPort_port]
  split
  · exact takeNotice_state _ _
  · rfl

theorem updUnit_samePortStates (u : UnitNo) (f : UnitEntry → UnitEntry) (s : State) : SamePortStates s (s.updUnit u f) :=
  fun p => by simp

/-- The answer handed to a port reaches the request that the port executed before the owner acted. -/
theorem SamePortStates.answered {q : Req} {a : Answer} {s t : State} (h : SamePortStates s t) :
    Answered q a.status a.cond a.data s (answerPort q.port a t) :=
  fun _ hj => answerPort_state ((h q.port).trans hj)

/-! ## Frames -/

theorem updPort_sameButPorts (p : PortId) (f : Port → Port) (s : State) : SameButPorts s (s.updPort p f) := by
  cases p <;> rfl

theorem answerPort_sameButPorts (p : PortId) (a : Answer) (s : State) : SameButPorts s (answerPort p a s) :=
  updPort_sameButPorts _ _ _

@[simp] theorem answerPort_unit (p : PortId) (a : Answer) (s : State) (u : UnitNo) : (answerPort p a s).unit u = s.unit u := by
  simp [answerPort]

@[simp] theorem answerPort_slot (p : PortId) (a : Answer) (s : State) (i : SlotIx) : (answerPort p a s).slot i = s.slot i := by
  simp [answerPort]

@[simp] theorem answerPort_fleet (p : PortId) (a : Answer) (s : State) : (answerPort p a s).fleet = s.fleet := by
  simp [answerPort]

@[simp] theorem answerPort_ready (p : PortId) (a : Answer) (s : State) : (answerPort p a s).ready = s.ready := by
  simp [answerPort]

/-- Nothing but the fleet and the ports differs. -/
def FleetOnly (s t : State) : Prop := SameButPorts { s with fleet := t.fleet } t

theorem FleetOnly.refl (s : State) : FleetOnly s s := rfl

theorem FleetOnly.trans {s t u : State} (h : FleetOnly s t) (k : FleetOnly t u) : FleetOnly s u := by
  have hk := congrArg (fun x : State => { x with desk := s.desk, transmitter := s.transmitter, operations := s.operations }) k
  have hh := congrArg (fun x : State => { x with fleet := u.fleet }) h
  exact hk.trans hh

theorem updUnit_fleetOnly (u : UnitNo) (f : UnitEntry → UnitEntry) (s : State) : FleetOnly s (s.updUnit u f) := rfl

theorem queueNotice_fleetOnly (k : NoticeKind) (j : Subject) (d : Detail) (s : State) : FleetOnly s (queueNotice k j d s) := rfl

theorem answerPort_fleetOnly (p : PortId) (a : Answer) (s : State) : FleetOnly s (answerPort p a s) := by
  unfold FleetOnly
  rw [answerPort_fleet]
  exact answerPort_sameButPorts p a s

/-! ## The numbers below a bound -/

theorem mem_every {n : Nat} (k : Fin n) : k ∈ every n := List.mem_finRange k

/-- A table's list is its records read in order. -/
theorem cells_eq_map_get {α : Type} {n : Nat} (t : Table α n) : t.cells = (List.finRange n).map t.get := by
  apply List.ext_getElem
  · simp [t.size]
  · intro k h1 h2
    simp [Table.get]

/-- A search over every number finds the lowest that passes. -/
theorem find_every_eq_some {n : Nat} {p : Fin n → Bool} {i : Fin n} (hi : p i = true) (hlow : ∀ j, j.val < i.val → p j = false) :
    (every n).find? p = some i := by
  rw [List.find?_eq_some_iff_getElem]
  refine ⟨hi, i.val, by simp [every], by simp [every], ?_⟩
  intro j hj
  have hjn : j < n := by omega
  simpa [every] using hlow ⟨j, hjn⟩ hj

theorem find_every_eq_none {n : Nat} {p : Fin n → Bool} (h : ∀ j, p j = false) : (every n).find? p = none := by
  simp [List.find?_eq_none, h]

end Sys2Proof.Machine
end

section
/-! PROOFS. Telemetry (01 R13 to R16): what a record of Report Units does to the fleet, and what the records count together. -/

namespace Sys2Proof.Machine

/-! ## The low-charge check (01 R15) -/

/-- The low-charge check leaves the state, or marks its unit LOW_REPORTED and queues a notice. -/
theorem lowCheck_cases (u : UnitNo) (s : State) :
    lowCheck u s = s ∨ ∃ k d, lowCheck u s = queueNotice k (.unit u) d (s.updUnit u fun e => { e with lowReported := true }) := by
  unfold lowCheck
  dsimp only
  split
  · split
    · exact .inr ⟨_, _, rfl⟩
    · split
      · split
        · exact .inr ⟨_, _, rfl⟩
        · exact .inl rfl
      · exact .inl rfl
  · exact .inl rfl

/-! ## What telemetry keeps -/

/-- What the records of a Report Units keep: every unit's kind and location, the ports' states and all but the fleet and the notices. -/
structure TelemetryKept (s t : State) : Prop where
  kind : ∀ u, (t.unit u).kind = (s.unit u).kind
  location : ∀ u, (t.unit u).location = (s.unit u).location
  ports : SamePortStates s t
  frame : FleetOnly s t

theorem TelemetryKept.refl (s : State) : TelemetryKept s s :=
  ⟨fun _ => rfl, fun _ => rfl, SamePortStates.refl s, FleetOnly.refl s⟩

theorem TelemetryKept.trans {s t u : State} (h : TelemetryKept s t) (k : TelemetryKept t u) : TelemetryKept s u :=
  ⟨fun v => (k.kind v).trans (h.kind v), fun v => (k.location v).trans (h.location v), h.ports.trans k.ports, h.frame.trans k.frame⟩

theorem queueNotice_telemetryKept (k : NoticeKind) (j : Subject) (d : Detail) (s : State) :
    TelemetryKept s (queueNotice k j d s) :=
  ⟨fun _ => rfl, fun _ => rfl, queueNotice_samePortStates k j d s, queueNotice_fleetOnly k j d s⟩

/-- A write to a unit's entry that keeps kind and location. -/
theorem updUnit_telemetryKept (u : UnitNo) (f : UnitEntry → UnitEntry) (s : State) (hk : ∀ e, (f e).kind = e.kind)
    (hl : ∀ e, (f e).location = e.location) : TelemetryKept s (s.updUnit u f) := by
  refine ⟨fun v => ?_, fun v => ?_, updUnit_samePortStates u f s, updUnit_fleetOnly u f s⟩
  · rw [State.updUnit_unit]; split <;> simp [hk]
  · rw [State.updUnit_unit]; split <;> simp [hl]

theorem lowCheck_telemetryKept (u : UnitNo) (s : State) : TelemetryKept s (lowCheck u s) := by
  obtain h | ⟨k, d, h⟩ := lowCheck_cases u s <;> rw [h]
  · exact TelemetryKept.refl s
  · refine (updUnit_telemetryKept u _ s ?_ ?_).trans (queueNotice_telemetryKept ..) <;> exact fun _ => rfl

theorem lowCheck_unit_of_ne {u v : UnitNo} (s : State) (h : u ≠ v) : (lowCheck u s).unit v = s.unit v := by
  obtain hc | ⟨k, d, hc⟩ := lowCheck_cases u s <;> rw [hc]
  simp [queueNotice, State.updUnit_unit, h]

theorem applyReport_telemetryKept (r : UnitReport) (t : ReportTally × State) : TelemetryKept t.2 (applyReport r t).2 := by
  unfold applyReport
  dsimp only
  split
  · exact TelemetryKept.refl _
  · split
    · refine (updUnit_telemetryKept r.unit _ t.2 ?_ ?_).trans (lowCheck_telemetryKept _ _) <;> exact fun _ => rfl
    · exact TelemetryKept.refl _

theorem applyReport_unit_of_ne {r : UnitReport} {u : UnitNo} (t : ReportTally × State) (h : r.unit ≠ u) :
    (applyReport r t).2.unit u = t.2.unit u := by
  unfold applyReport
  dsimp only
  split
  · rfl
  · split
    · simp [lowCheck_unit_of_ne _ h, State.updUnit_unit, h]
    · rfl

/-! ## The three counts (01 R16) -/

/-- The record names an enrolled unit. -/
def namesEnrolled (s : State) (r : UnitReport) : Bool := (s.unit r.unit).kind != .vacant

/-- A heard record of an enrolled unit that sets V. -/
def clampsRecord (s : State) (r : UnitReport) : Bool := namesEnrolled s r && r.heard && reportClamps (s.unit r.unit) r

/-- What a list of records adds to the counts, each record judged by the state before the request. -/
def tallyOf (s : State) (rs : List UnitReport) : ReportTally :=
  { applied := (rs.filter fun r => namesEnrolled s r && r.heard).length
    unheard := (rs.filter fun r => namesEnrolled s r && !r.heard).length
    skipped := (rs.filter fun r => !namesEnrolled s r).length
    clamped := rs.any (clampsRecord s) }

/-- Two tallies counted together. -/
def ReportTally.plus (a b : ReportTally) : ReportTally :=
  ⟨a.applied + b.applied, a.unheard + b.unheard, a.skipped + b.skipped, a.clamped || b.clamped⟩

theorem ReportTally.plus_tallyOf_nil (a : ReportTally) (s : State) : a.plus (tallyOf s []) = a := by
  simp [plus, tallyOf]

theorem ReportTally.zero_plus (a : ReportTally) : ReportTally.plus ⟨0, 0, 0, false⟩ a = a := by
  simp [plus]

theorem tallyOf_kept {s t : State} (h : TelemetryKept s t) (rs : List UnitReport) : tallyOf t rs = tallyOf s rs := by
  have hn : namesEnrolled t = namesEnrolled s := by funext r; simp [namesEnrolled, h.kind]
  have hc : clampsRecord t = clampsRecord s := by
    funext r; simp [clampsRecord, hn, reportClamps, takesCharge, h.location]
  simp [tallyOf, hn, hc]

/-- One record counts once, by its unit's kind and its heard indication. -/
theorem applyReport_tally (r : UnitReport) (t : ReportTally × State) (rs : List UnitReport) :
    (applyReport r t).1.plus (tallyOf t.2 rs) = t.1.plus (tallyOf t.2 (r :: rs)) := by
  unfold applyReport
  by_cases hk : (t.2.unit r.unit).kind = .vacant
  · simp [hk, tallyOf, clampsRecord, namesEnrolled, ReportTally.plus, Nat.add_assoc, Nat.add_comm]
  · have hb : ((t.2.unit r.unit).kind != .vacant) = true := bne_iff_ne.2 hk
    cases hh : r.heard <;>
      simp [hk, hb, hh, tallyOf, clampsRecord, namesEnrolled, ReportTally.plus, Nat.add_assoc, Nat.add_comm, Bool.or_assoc]

/-- The records applied from a tally and a state count as the state before them says. -/
theorem foldl_applyReport (rs : List UnitReport) (t : ReportTally × State) :
    (rs.foldl (fun t r => applyReport r t) t).1 = t.1.plus (tallyOf t.2 rs)
      ∧ TelemetryKept t.2 (rs.foldl (fun t r => applyReport r t) t).2
      ∧ ∀ u, (∀ r ∈ rs, r.unit ≠ u) → (rs.foldl (fun t r => applyReport r t) t).2.unit u = t.2.unit u := by
  induction rs generalizing t with
  | nil => exact ⟨(t.1.plus_tallyOf_nil t.2).symm, TelemetryKept.refl _, fun _ _ => rfl⟩
  | cons r rest ih =>
    obtain ⟨hcount, hkept, hunit⟩ := ih (applyReport r t)
    have hstep := applyReport_telemetryKept r t
    refine ⟨?_, hstep.trans hkept, fun u hu => ?_⟩
    · rw [List.foldl_cons, hcount, tallyOf_kept hstep, applyReport_tally]
    · rw [List.foldl_cons, hunit u fun x hx => hu x (List.mem_cons_of_mem _ hx)]
      exact applyReport_unit_of_ne t (hu r List.mem_cons_self)

theorem applyReports_tally (rs : List UnitReport) (s : State) : (applyReports rs s).1 = tallyOf s rs :=
  (foldl_applyReport rs (⟨0, 0, 0, false⟩, s)).1.trans (ReportTally.zero_plus _)

theorem applyReports_telemetryKept (rs : List UnitReport) (s : State) : TelemetryKept s (applyReports rs s).2 :=
  (foldl_applyReport rs (⟨0, 0, 0, false⟩, s)).2.1

theorem applyReports_unit_of_unnamed {rs : List UnitReport} {u : UnitNo} (s : State) (h : ∀ r ∈ rs, r.unit ≠ u) :
    (applyReports rs s).2.unit u = s.unit u :=
  (foldl_applyReport rs (⟨0, 0, 0, false⟩, s)).2.2 u h

/-- Every record falls under one of the three counts. -/
theorem tallyOf_sum (s : State) (rs : List UnitReport) :
    (tallyOf s rs).applied + (tallyOf s rs).unheard + (tallyOf s rs).skipped = rs.length := by
  induction rs with
  | nil => rfl
  | cons r rest ih =>
    simp only [tallyOf] at ih
    cases he : namesEnrolled s r <;> cases hh : r.heard <;> simp [tallyOf, he, hh] <;> omega

/-- Settles O19: the fold over the records counts by the state before the request, since no record changes a unit's kind or location. -/
theorem reportUnitsCountsRecords : Obligations.ReportUnitsCountsRecords := by
  intro q rs s h hlow hhigh
  have hkept := applyReports_telemetryKept rs s
  have hrun : exec (.reportUnits q rs) s = .next (answerPort q.port
      ⟨.ok, ⟨(tallyOf s rs).clamped, (tallyOf s rs).applied == 0, false, false⟩,
        .reported (tallyOf s rs).applied (tallyOf s rs).unheard (tallyOf s rs).skipped⟩ (applyReports rs s).2) := by
    refine congrArg Host.Outcome.next (h.serve ?_)
    have hlen : ¬(rs.length = 0 ∨ 16 < rs.length) := by omega
    simp only [if_neg hlen, applyReports_tally]
  refine ⟨_, hrun, ?_, tallyOf_sum s rs, fun u hu => ?_, ?_⟩
  · exact hkept.ports.answered
  · rw [answerPort_unit, applyReports_unit_of_unnamed s hu]
  · exact hkept.frame.trans (answerPort_fleetOnly _ _ _)

end Sys2Proof.Machine
end

section
/-! PROOFS. Select Units and its relations (01 R17 to R20). -/

namespace Sys2Proof.Machine

/-- Settles O14: each relation is one comparison, and the second of a pair is the negation of the first. -/
theorem relationsCompare : Obligations.RelationsCompare := by
  intro x y
  refine ⟨?_, ?_, ?_, ?_, ?_, ?_, ?_, ?_⟩
  case refine_1 => exact beq_iff_eq
  case refine_2 => exact decide_eq_true_iff
  case refine_3 => exact decide_eq_true_iff
  case refine_4 => exact decide_eq_true_iff
  all_goals rfl

/-- A unit matches a query when every test of 01 R17 to R20 passes. -/
theorem matchesQuery_iff (s : State) (p : SelectQuery) (f : SelectField) (r : Relation) (k : MarkTest) (u : UnitNo) :
    matchesQuery s p f r k u = true ↔ (s.unit u).kind ≠ .vacant ∧ p.start.val ≤ u.val ∧ inFilter p (s.unit u).location = true
      ∧ markHolds k p.mask (s.unit u).marks = true ∧ ∃ x, fieldValue s f (s.unit u) = some x ∧ holds r x p.operand = true := by
  unfold matchesQuery
  dsimp only
  cases fieldValue s f (s.unit u) <;> simp [and_assoc]

/-- The units that match a query, in ascending number (01 R17). -/
def matching (s : State) (p : SelectQuery) (f : SelectField) (r : Relation) (k : MarkTest) : List UnitNo :=
  (every 256).filter (matchesQuery s p f r k)

theorem matching_pairwise (s : State) (p : SelectQuery) (f : SelectField) (r : Relation) (k : MarkTest) :
    (matching s p f r k).Pairwise fun u v => u.val < v.val :=
  (List.pairwise_lt_finRange 256).filter _

theorem exec_selectUnits {q : Req} {p : SelectQuery} {s : State} {f : SelectField} {r : Relation} {k : MarkTest}
    (h : InHand .selectUnits q s) (hf : p.field = some f) (hr : p.relation = some r) (hk : p.markTest = some k) :
    exec (.selectUnits q p) s = .next (answerPort q.port
      ⟨.ok, ⟨false, (matching s p f r k).isEmpty, decide (48 < (matching s p f r k).length), false⟩,
        .selected (matching s p f r k).length ((matching s p f r k).take 48)⟩ s) := by
  refine congrArg Host.Outcome.next (h.serve ?_)
  have hz : ((matching s p f r k).length == 0) = (matching s p f r k).isEmpty := by cases matching s p f r k <;> rfl
  simp only [hf, hr, hk, ← hz]
  rfl

/-- Settles O13: the list is the ascending fleet filtered by the query; a test outside its list leaves no query to make. -/
theorem selectUnitsListsMatches : Obligations.SelectUnitsListsMatches := by
  intro q p s h
  constructor
  · intro f r k hf hr hk
    refine ⟨matching s p f r k, exec_selectUnits h hf hr hk, matching_pairwise s p f r k, fun u => ?_⟩
    rw [matching, List.mem_filter, matchesQuery_iff]
    exact and_iff_right (mem_every u)
  · intro hnone
    refine congrArg Host.Outcome.next (h.serve ?_)
    obtain hf | hr | hk := hnone
    · simp only [hf]
    · simp only [hr]; cases p.field <;> rfl
    · simp only [hk]; cases p.field <;> cases p.relation <;> rfl

end Sys2Proof.Machine
end

section
/-! PROOFS. Identify and the five Read requests: each answers with what its rule lists and acts on nothing but its port. -/

namespace Sys2Proof.Machine

/-! ## What the responses list -/

theorem groupOf_succ (g : GroupNo) : groupOf (g.val + 1) = some g := by
  have h : 1 ≤ g.val + 1 ∧ g.val + 1 ≤ 12 := by omega
  simp [groupOf, h]

theorem inRange_val {n : Nat} (k : Fin n) : inRange n k.val = some k := by simp [inRange]

/-- The members of a group that pass a test, counted over the fleet or over the members. -/
theorem countUnits_members (s : State) (g : GroupNo) (test : UnitEntry → Bool) :
    countUnits s (fun e => isMember g e && test e) =
      (((List.finRange 256).filter fun u =>
        ((s.unit u).location == .issued || (s.unit u).location == .releasing) && (s.unit u).group == some g).filter
          fun u => test (s.unit u)).length := by
  rw [List.filter_filter]
  simp only [countUnits, every, isMember, isOut, Bool.and_comm]

theorem slotsOf_map (s : State) (r : RackNo) : (slotsOf r).map s.slot = (List.finRange 16).map fun k => s.slot (slotIx r k) := by
  simp [slotsOf, every, Function.comp_def]

/-- The channels of a part are four consecutive ones (06 R117). -/
theorem partChannels_eq : ∀ part : Fin 3, partChannels part.val =
    [⟨4 * part.val, by omega⟩, ⟨4 * part.val + 1, by omega⟩, ⟨4 * part.val + 2, by omega⟩, ⟨4 * part.val + 3, by omega⟩] := by
  decide

theorem partChannels_all (part : Nat) (test : ChanNo → Bool) :
    (partChannels part).all test = decide (∀ c : ChanNo, c.val / 4 = part → test c = true) := by
  rw [Bool.eq_iff_iff, List.all_eq_true, decide_eq_true_iff]
  simp only [partChannels, List.mem_filter, mem_every, true_and, beq_iff_eq]

theorem cells_all {α : Type} {n : Nat} (t : Table α n) (test : α → Bool) :
    t.cells.all test = decide (∀ k, test (t.get k) = true) := by
  rw [Bool.eq_iff_iff]
  simp [cells_eq_map_get]

theorem cells_map {α β : Type} {n : Nat} (t : Table α n) (f : α → β) :
    t.cells.map f = (List.finRange n).map fun k => f (t.get k) := by
  simp [cells_eq_map_get, Function.comp_def]

/-! ## The requests -/

theorem exec_readGroup {q : Req} {s : State} (h : InHand .readGroup q s) (g : GroupNo) :
    exec (.readGroup q (g.val + 1)) s = .next (answerPort q.port
      ⟨.ok, ⟨false, (s.group g).state == .free, false, false⟩,
        .group (s.group g) ((s.group g).channel.map (airCode s.siteCode)) (countUnits s fun e => isMember g e && e.overdue)
          (countUnits s fun e => isMember g e && e.location == .releasing)⟩ s) := by
  refine congrArg Host.Outcome.next (h.serve ?_)
  simp only [groupOf_succ]
  rfl

theorem exec_readRack {q : Req} {s : State} (h : InHand .readRack q s) (r : RackNo) :
    exec (.readRack q r.val) s =
      (let sls := (slotsOf r).map s.slot
       .next (answerPort q.port
        ⟨.ok, ⟨sls.any fun sl => (sl.last.map (·.clamped)).getD false, sls.all fun sl => sl.occupant == .none, false, false⟩,
          .rack (s.rack r).online (s.rack r).misses (s.rack r).budget (grantedSum (s.rack r)) (sls.map summary)⟩ s)) := by
  refine congrArg Host.Outcome.next (h.serve ?_)
  simp only [inRange_val]

theorem exec_readChannelPlan_records {q : Req} {s : State} (h : InHand .readChannelPlan q s) {part : Nat} (hp : part < 3) :
    exec (.readChannelPlan q part) s = .next (answerPort q.port
      ⟨.ok, ⟨false, (partChannels part).all fun c => (s.channel c).state == .off, false, false⟩,
        .channels ((partChannels part).map (channelReport s))⟩ s) := by
  refine congrArg Host.Outcome.next (h.serve ?_)
  simp only [if_pos hp]
  rfl

theorem exec_readChannelPlan_plan {q : Req} {s : State} (h : InHand .readChannelPlan q s) :
    exec (.readChannelPlan q 3) s = .next (answerPort q.port
      ⟨.ok, ⟨false, s.presence.cells.all fun p => !p.present, false, false⟩,
        .plan (s.presence.cells.map (·.present)) s.links.cells (s.channels.cells.map (·.state)) (isRaised s)⟩ s) :=
  congrArg Host.Outcome.next (h.serve rfl)

theorem exec_readDirectory {q : Req} {s : State} (h : InHand .readDirectory q s) {start : Nat} (hs : 1 ≤ start ∧ start ≤ 96) :
    exec (.readDirectory q start false) s = .next (answerPort q.port
      ⟨.ok, ⟨false, (recordsFrom s start).isEmpty, decide (16 < (recordsFrom s start).length), false⟩,
        .directory s.store.state s.store.batch.length s.store.inHand s.prot s.key (blockCounts s .emergency)
          (blockCounts s .standard) s.directory.length ((recordsFrom s start).take 16)⟩ s) := by
  refine congrArg Host.Outcome.next (h.serve ?_)
  have hr : ¬(start < 1 ∨ 96 < start) := by omega
  simp only [if_neg hr]
  rfl

theorem exec_readDirectory_detail {q : Req} {s : State} (h : InHand .readDirectory q s) {start : Nat}
    (hs : 1 ≤ start ∧ start ≤ 96) {c : Clip} (hc : s.clip start = some c) :
    exec (.readDirectory q start true) s = .next (answerPort q.port
      (ok (.clipDetail c (c.blocks.map fun b => s.blocks.get b))) s) := by
  refine congrArg Host.Outcome.next (h.serve ?_)
  have hr : ¬(start < 1 ∨ 96 < start) := by omega
  simp only [if_neg hr, if_true, hc]

/-- Settles O12: every body hands back the state it was given, and its data are what the rule lists. -/
theorem readRequestsOnlyAnswer : Obligations.ReadRequestsOnlyAnswer := by
  intro q s
  refine ⟨?identify, ?unit, ?group, ?rack, ?records, ?plan, ?directory⟩
  case identify => exact fun h => congrArg Host.Outcome.next (h.serve rfl)
  case unit => exact fun u h => congrArg Host.Outcome.next (h.serve rfl)
  case group =>
    intro g h
    rw [exec_readGroup h g, countUnits_members, countUnits_members]
    rfl
  case rack =>
    intro r h
    rw [exec_readRack h r, slotsOf_map]
    rfl
  case records =>
    intro part hp h
    have hlist := partChannels_eq ⟨part, hp⟩
    dsimp only at hlist
    refine ⟨(partChannels part).map (channelReport s), ?_, fun k hk => ⟨⟨4 * part + k, by omega⟩, rfl, ?_⟩, ?_⟩
    · simp [hlist]
    · obtain rfl | rfl | rfl | rfl : k = 0 ∨ k = 1 ∨ k = 2 ∨ k = 3 := by omega
      all_goals simp [hlist]
    · simp [exec_readChannelPlan_records h hp, partChannels_all]
  case plan =>
    intro h
    rw [exec_readChannelPlan_plan h, cells_all, cells_map, cells_map, cells_eq_map_get s.links]
    simp only [Bool.not_eq_true', isRaised]
    rfl
  case directory =>
    intro start hlow hhigh h
    exact ⟨exec_readDirectory h ⟨hlow, hhigh⟩, fun c hc => exec_readDirectory_detail h ⟨hlow, hhigh⟩ hc⟩

end Sys2Proof.Machine
end

section
/-! PROOFS. A slot's change with its outputs, and a unit judged again (01 R4): what each writes and what it leaves alone. -/

namespace Sys2Proof.Machine

/-! ## A change of a slot's record (02 R29) -/

section
variable (i : SlotIx) (f : Slot → Slot) (s : State)

theorem changeSlot_slot_of_ne {j : SlotIx} (h : j ≠ i) : (changeSlot i f s).slot j = s.slot j := by
  simp [changeSlot, drive, State.updSlot_slot, Ne.symm h]

@[simp] theorem changeSlot_state : ((changeSlot i f s).slot i).state = (f (s.slot i)).state := by
  simp [changeSlot, drive]

@[simp] theorem changeSlot_occupant : ((changeSlot i f s).slot i).occupant = (f (s.slot i)).occupant := by
  simp [changeSlot, drive]

@[simp] theorem changeSlot_charge : ((changeSlot i f s).slot i).charge = (f (s.slot i)).charge := by
  simp [changeSlot, drive]

@[simp] theorem changeSlot_granted : ((changeSlot i f s).slot i).granted = (f (s.slot i)).granted := by
  simp [changeSlot, drive]

@[simp] theorem changeSlot_pending : ((changeSlot i f s).slot i).pending = (f (s.slot i)).pending := by
  simp [changeSlot, drive]

@[simp] theorem changeSlot_window : ((changeSlot i f s).slot i).window = (f (s.slot i)).window := by
  simp [changeSlot, drive]

theorem changeSlot_out : ((changeSlot i f s).slot i).out = outputsFor s (f (s.slot i)) := by
  simp only [changeSlot, drive, State.updSlot_slot_self]
  rfl

/-- A changed slot is the only change. -/
theorem changeSlot_restored : { changeSlot i f s with slots := s.slots } = s := rfl

theorem changeSlot_samePortStates : SamePortStates s (changeSlot i f s) := fun p => by cases p <;> rfl

end

/-! ## The ready queue (04 R62) -/

@[simp] theorem readyAppend_slot (u : UnitNo) (s : State) (i : SlotIx) : (readyAppend u s).slot i = s.slot i := rfl

theorem readyAppend_samePortStates (u : UnitNo) (s : State) : SamePortStates s (readyAppend u s) := fun p => by cases p <;> rfl

@[simp] theorem readyPush_slot (u : UnitNo) (s : State) (i : SlotIx) : (readyPush u s).slot i = s.slot i := rfl

/-! ## The fleet, the slots and the ready queue -/

/-- Nothing but the fleet, the slots, the ready queue with its arming, and the ports differs. -/
def FleetAndSlotsOnly (s t : State) : Prop :=
  SameButPorts { s with fleet := t.fleet, slots := t.slots, ready := t.ready, armed := t.armed } t

theorem FleetAndSlotsOnly.trans {s t u : State} (h : FleetAndSlotsOnly s t) (k : FleetAndSlotsOnly t u) : FleetAndSlotsOnly s u := by
  have hk := congrArg (fun x : State => { x with desk := s.desk, transmitter := s.transmitter, operations := s.operations }) k
  have hh := congrArg (fun x : State => { x with fleet := u.fleet, slots := u.slots, ready := u.ready, armed := u.armed }) h
  exact hk.trans hh

theorem FleetOnly.fleetAndSlots {s t : State} (h : FleetOnly s t) : FleetAndSlotsOnly s t := by
  have hh := congrArg (fun x : State => { x with slots := t.slots, ready := t.ready, armed := t.armed }) h
  exact hh

theorem changeSlot_fleetAndSlotsOnly (i : SlotIx) (f : Slot → Slot) (s : State) : FleetAndSlotsOnly s (changeSlot i f s) := rfl

theorem answerPort_fleetAndSlotsOnly (p : PortId) (a : Answer) (s : State) : FleetAndSlotsOnly s (answerPort p a s) :=
  (answerPort_fleetOnly p a s).fleetAndSlots

/-! ## A unit judged again (01 R4) -/

/-- A unit shown in a slot: READY goes to FULL when it is not eligible, FULL to READY when it is, and nothing else moves. -/
theorem judgeUnit_inSlot {u : UnitNo} {s : State} {i : SlotIx} (hl : (s.unit u).location = .inSlot) (hi : (s.unit u).slot = some i) :
    judgeUnit u s =
      if (s.slot i).state = .ready ∧ eligible s u = false then changeSlot i (fun sl => { sl with state := .full }) (readyRemove u s)
      else if (s.slot i).state = .full ∧ eligible s u = true then
        readyAppend u (changeSlot i (fun sl => { sl with state := .ready }) s)
      else s := by
  unfold judgeUnit
  simp only [hl, hi]

/-- Judging a unit moves one slot between READY and FULL, or does nothing. -/
theorem judgeUnit_cases (u : UnitNo) (s : State) :
    judgeUnit u s = s
      ∨ (∃ i, judgeUnit u s = changeSlot i (fun sl => { sl with state := .full }) (readyRemove u s))
      ∨ ∃ i, judgeUnit u s = readyAppend u (changeSlot i (fun sl => { sl with state := .ready }) s) := by
  unfold judgeUnit
  dsimp only
  split
  · split
    · exact .inr (.inl ⟨_, rfl⟩)
    · split
      · exact .inr (.inr ⟨_, rfl⟩)
      · exact .inl rfl
  · exact .inl rfl

@[simp] theorem judgeUnit_unit (u : UnitNo) (s : State) (v : UnitNo) : (judgeUnit u s).unit v = s.unit v := by
  obtain h | ⟨i, h⟩ | ⟨i, h⟩ := judgeUnit_cases u s <;> rw [h] <;> rfl

theorem judgeUnit_samePortStates (u : UnitNo) (s : State) : SamePortStates s (judgeUnit u s) := by
  obtain h | ⟨i, h⟩ | ⟨i, h⟩ := judgeUnit_cases u s <;> rw [h]
  · exact SamePortStates.refl s
  · exact changeSlot_samePortStates i _ (readyRemove u s)
  · exact (changeSlot_samePortStates i _ s).trans (readyAppend_samePortStates u _)

theorem judgeUnit_fleetAndSlotsOnly (u : UnitNo) (s : State) : FleetAndSlotsOnly s (judgeUnit u s) := by
  obtain h | ⟨i, h⟩ | ⟨i, h⟩ := judgeUnit_cases u s <;> rw [h] <;> rfl

end Sys2Proof.Machine
end

section
/-! PROOFS. Enrolment, retirement, unenrolment and marks (01 R6 to R10). -/

namespace Sys2Proof.Machine

theorem updUnit_otherUnitsSame (u : UnitNo) (f : UnitEntry → UnitEntry) (s : State) : OtherUnitsSame u s (s.updUnit u f) := by
  intro v hv
  simp [State.updUnit_unit, Ne.symm hv]

/-! ## Unenrol Unit (01 R9) -/

theorem isAssignedMic_iff (e : UnitEntry) : isAssignedMic e = true ↔ e.kind = .guideMic ∧ e.assigned.isSome = true := by
  simp [isAssignedMic]

/-- A serial is held by no one when every enrolled unit has another. -/
theorem holderOf_eq_none {s : State} {serial : BitVec 32} (h : ∀ v, (s.unit v).kind = .vacant ∨ (s.unit v).serial ≠ serial) :
    holderOf s serial = none := by
  refine find_every_eq_none fun v => ?_
  obtain hk | hs := h v
  · simp [hk]
  · simp [hs]

/-- Settles O17: the refusals of R9 in order, then the vacated entry, which holds no serial. -/
theorem unenrolUnitVacatesEntry : Obligations.UnenrolUnitVacatesEntry := by
  refine ⟨by decide, by decide, by decide, by decide, fun q u s h => ⟨fun hv => ?_, fun hv hbad => ?_, fun hv hl hm => ⟨?_, fun hser => ?_⟩⟩⟩
  · refine congrArg Host.Outcome.next (h.serve ?_)
    simp only [if_pos hv]
  · refine congrArg Host.Outcome.next (h.serve ?_)
    simp only [if_neg hv]
    by_cases hl : (s.unit u).location = .loose
    · have hm := (isAssignedMic_iff _).2 (hbad.resolve_left (not_not_intro hl))
      simp only [hl, hm, ne_eq, not_true_eq_false, if_false, if_true]
    · simp only [if_pos hl]
  · refine congrArg Host.Outcome.next (h.serve ?_)
    have hm' : ¬ isAssignedMic (s.unit u) = true := fun hx => hm ((isAssignedMic_iff _).1 hx)
    simp only [if_neg hv, hl, ne_eq, not_true_eq_false, if_false, if_neg hm']
  · refine holderOf_eq_none fun v => ?_
    by_cases hu : v = u
    · subst hu; exact .inl (by simp [vacantEntry])
    · rw [updUnit_otherUnitsSame u _ s v hu]; exact hser v hu

/-! ## Set Unit Marks (01 R10) -/

/-- A unit's marks written. -/
def withMarks (u : UnitNo) (new : Byte) (s : State) : State := s.updUnit u fun e => { e with marks := new }

/-- The state after an accepted Set Unit Marks: the marks written, and the unit judged when HOLD_BACK changes. -/
def marked (u : UnitNo) (new : Byte) (s : State) : State :=
  if heldBack (s.unit u).marks = heldBack new then withMarks u new s else judgeUnit u (withMarks u new s)

theorem marked_cases (u : UnitNo) (new : Byte) (s : State) :
    marked u new s = withMarks u new s ∨ marked u new s = judgeUnit u (withMarks u new s) := by
  unfold marked
  split
  · exact .inl rfl
  · exact .inr rfl

theorem marked_unit (u : UnitNo) (new : Byte) (s : State) (v : UnitNo) : (marked u new s).unit v = (withMarks u new s).unit v := by
  obtain h | h := marked_cases u new s <;> rw [h]
  exact judgeUnit_unit u _ v

theorem marked_samePortStates (u : UnitNo) (new : Byte) (s : State) : SamePortStates s (marked u new s) := by
  have hw : SamePortStates s (withMarks u new s) := updUnit_samePortStates u _ s
  obtain h | h := marked_cases u new s <;> rw [h]
  · exact hw
  · exact hw.trans (judgeUnit_samePortStates u _)

theorem marked_fleetAndSlotsOnly (u : UnitNo) (new : Byte) (s : State) : FleetAndSlotsOnly s (marked u new s) := by
  have hw : FleetAndSlotsOnly s (withMarks u new s) := (updUnit_fleetOnly u _ s).fleetAndSlots
  obtain h | h := marked_cases u new s <;> rw [h]
  · exact hw
  · exact hw.trans (judgeUnit_fleetAndSlotsOnly u _)

/-- Without a change of HOLD_BACK the unit is not judged. -/
theorem marked_fleetOnly {u : UnitNo} {new : Byte} {s : State} (h : heldBack (s.unit u).marks = heldBack new) :
    FleetOnly s (marked u new s) := by
  rw [marked, if_pos h]
  exact updUnit_fleetOnly u _ s

theorem exec_setUnitMarks {q : Req} {u : UnitNo} {s : State} (clearMask setMask : Byte) (h : InHand .setUnitMarks q s)
    (hk : (s.unit u).kind ≠ .vacant) :
    exec (.setUnitMarks q u clearMask setMask) s =
      (let old := (s.unit u).marks
       let new := newMarks old clearMask setMask
       .next (answerPort q.port ⟨.ok, ⟨false, new == 0, false, new == old⟩, .marks old new⟩ (marked u new s))) := by
  refine congrArg Host.Outcome.next (h.serve ?_)
  simp only [if_neg hk]
  rfl

/-- Settles O18: writing the marks touches one field of one entry, and judging the unit leaves the fleet alone. -/
theorem setUnitMarksWritesMarks : Obligations.SetUnitMarksWritesMarks := by
  intro q u clearMask setMask s h hk
  refine ⟨_, exec_setUnitMarks clearMask setMask h hk, ?_, fun v hv => ?_, ?_, ?_, fun hsame => ?_⟩
  · rw [answerPort_unit, marked_unit]
    exact State.updUnit_unit_self ..
  · rw [answerPort_unit, marked_unit]
    exact updUnit_otherUnitsSame u _ s v hv
  · exact (marked_samePortStates u _ s).answered
  · exact (marked_fleetAndSlotsOnly u _ s).trans (answerPort_fleetAndSlotsOnly _ _ _)
  · exact (marked_fleetOnly hsame.symm).trans (answerPort_fleetOnly _ _ _)

/-! ## Retire Unit (01 R8) -/

/-- A unit's RETIRED set. -/
def withRetired (u : UnitNo) (s : State) : State := s.updUnit u fun e => { e with retired := true }

theorem exec_retireUnit {q : Req} {u : UnitNo} {s : State} (h : InHand .retireUnit q s) (hk : (s.unit u).kind ≠ .vacant)
    (hi : (s.unit u).location ≠ .issued) (hr : (s.unit u).location ≠ .releasing) (ha : (s.unit u).assigned = none)
    (hn : (s.unit u).retired = false) :
    exec (.retireUnit q u) s = .next (answerPort q.port (ok .none) (judgeUnit u (withRetired u s))) := by
  refine congrArg Host.Outcome.next (h.serve ?_)
  have hfree : (isOut (s.unit u) || isAssignedMic (s.unit u)) = false := by simp [isOut, isAssignedMic, hi, hr, ha]
  simp only [if_neg hk, hfree, hn, Bool.false_eq_true, if_false]
  rfl

theorem judgeUnit_withRetired_samePortStates (u : UnitNo) (s : State) : SamePortStates s (judgeUnit u (withRetired u s)) :=
  (updUnit_samePortStates u _ s).trans (judgeUnit_samePortStates u _)

theorem judgeUnit_withRetired_fleetAndSlotsOnly (u : UnitNo) (s : State) : FleetAndSlotsOnly s (judgeUnit u (withRetired u s)) :=
  (updUnit_fleetOnly u _ s).fleetAndSlots.trans (judgeUnit_fleetAndSlotsOnly u _)

/-! ## Enrol Unit (01 R6, R7) -/

/-- The new entry written, before its location is settled. -/
def withNew (u : UnitNo) (kind : UnitKind) (serial : BitVec 32) (marks : Byte) (cycles : Nat) (s : State) : State :=
  s.updUnit u fun _ => newEntry kind serial marks cycles

@[simp] theorem withNew_unit_self (u : UnitNo) (kind : UnitKind) (serial : BitVec 32) (marks : Byte) (cycles : Nat) (s : State) :
    (withNew u kind serial marks cycles s).unit u = newEntry kind serial marks cycles := State.updUnit_unit_self ..

theorem withNew_otherUnitsSame (u : UnitNo) (kind : UnitKind) (serial : BitVec 32) (marks : Byte) (cycles : Nat) (s : State) :
    OtherUnitsSame u s (withNew u kind serial marks cycles s) := updUnit_otherUnitsSame u _ s

theorem withNew_samePortStates (u : UnitNo) (kind : UnitKind) (serial : BitVec 32) (marks : Byte) (cycles : Nat) (s : State) :
    SamePortStates s (withNew u kind serial marks cycles s) := updUnit_samePortStates u _ s

theorem withNew_fleetOnly (u : UnitNo) (kind : UnitKind) (serial : BitVec 32) (marks : Byte) (cycles : Nat) (s : State) :
    FleetOnly s (withNew u kind serial marks cycles s) := updUnit_fleetOnly u _ s

theorem exec_enrolUnit {q : Req} {u : UnitNo} {kind : UnitKind} {serial : BitVec 32} {marks : Byte} {cycles : Half} {s : State}
    (h : InHand .enrolUnit q s) (h0 : serial ≠ 0) (hk : (s.unit u).kind = .vacant)
    (hs : ∀ v, (s.unit v).kind ≠ .vacant → (s.unit v).serial ≠ serial) :
    exec (.enrolUnit q u (some kind) serial marks cycles) s =
      (let t := enrol u kind serial marks cycles.toNat s
       .next (answerPort q.port (ok (.enrolled (t.unit u).location (t.unit u).slot)) t)) := by
  refine congrArg Host.Outcome.next (h.serve ?_)
  have hh : holderOf s serial = none := holderOf_eq_none fun v => Classical.or_iff_not_imp_left.2 (hs v)
  simp only [if_neg h0, hk, ne_eq, not_true_eq_false, if_false, hh]

/-- A serial that stands in no slot leaves the new unit loose. -/
theorem enrol_loose {s : State} {serial : BitVec 32} (u : UnitNo) (kind : UnitKind) (marks : Byte) (cycles : Nat)
    (hno : ∀ i, (s.slot i).occupant ≠ .unenrolled serial) :
    enrol u kind serial marks cycles s = withNew u kind serial marks cycles s := by
  have hnone : strangerSlot s serial = none := find_every_eq_none fun i => beq_eq_false_iff_ne.2 (hno i)
  simp only [enrol, hnone]
  rfl

/-- An enrolled unit placed in a slot, before it is judged (01 R7). -/
def placed (u : UnitNo) (i : SlotIx) (s : State) : State :=
  changeSlot i (fun sl => { sl with occupant := .enrolled u }) <|
    s.updUnit u fun e => { e with location := .inSlot, slot := some i, charge := (s.slot i).charge }

/-- A serial that stands in a slot places the new unit in the lowest such slot, and the unit is judged. -/
theorem enrol_inSlot {s : State} {serial : BitVec 32} {i : SlotIx} (u : UnitNo) (kind : UnitKind) (marks : Byte) (cycles : Nat)
    (hi : (s.slot i).occupant = .unenrolled serial) (hlow : ∀ j, j.val < i.val → (s.slot j).occupant ≠ .unenrolled serial) :
    enrol u kind serial marks cycles s = judgeUnit u (placed u i (withNew u kind serial marks cycles s)) := by
  have hsome : strangerSlot s serial = some i :=
    find_every_eq_some (beq_iff_eq.2 hi) fun j hj => beq_eq_false_iff_ne.2 (hlow j hj)
  simp only [enrol, hsome]
  rfl

@[simp] theorem placed_unit_self (u : UnitNo) (i : SlotIx) (s : State) :
    (placed u i s).unit u = { s.unit u with location := .inSlot, slot := some i, charge := (s.slot i).charge } :=
  State.updUnit_unit_self ..

theorem placed_otherUnitsSame (u : UnitNo) (i : SlotIx) (s : State) : OtherUnitsSame u s (placed u i s) :=
  updUnit_otherUnitsSame u _ s

theorem placed_samePortStates (u : UnitNo) (i : SlotIx) (s : State) : SamePortStates s (placed u i s) :=
  (updUnit_samePortStates u _ s).trans (changeSlot_samePortStates i _ _)

theorem placed_fleetAndSlotsOnly (u : UnitNo) (i : SlotIx) (s : State) : FleetAndSlotsOnly s (placed u i s) :=
  (updUnit_fleetOnly u _ s).fleetAndSlots.trans (changeSlot_fleetAndSlotsOnly i _ _)

/-- Where a unit stands does not bear on its eligibility. -/
theorem placed_eligible (u : UnitNo) (i : SlotIx) (s : State) : eligible (placed u i s) u = eligible s u := by
  simp only [eligible, placed_unit_self]
  rfl

/-- A newly enrolled unit is eligible when it is a receiver, not held back, and below the service limit. -/
theorem eligible_newEntry {u : UnitNo} {kind : UnitKind} {serial : BitVec 32} {marks : Byte} {cycles : Nat} {s : State}
    (hu : s.unit u = newEntry kind serial marks cycles) :
    eligible s u = true ↔ kind = .receiver ∧ marks.getLsbD 7 = false ∧ cycles < s.charge.serviceLimit := by
  cases kind <;> simp [eligible, hu, newEntry, vacantEntry, entryKind, heldBack, serviceDue]

/-- Judged, a placed unit turns a FULL slot READY when it is eligible, and leaves any slot but a READY one otherwise. -/
theorem judgeUnit_placed {u : UnitNo} {i : SlotIx} {s : State} (hr : (s.slot i).state ≠ .ready) :
    judgeUnit u (placed u i s) =
      if (s.slot i).state = .full ∧ eligible s u = true then
        readyAppend u (changeSlot i (fun sl => { sl with state := .ready }) (placed u i s))
      else placed u i s := by
  have hunit := placed_unit_self u i s
  have hstate : ((placed u i s).slot i).state = (s.slot i).state := by simp [placed]
  rw [judgeUnit_inSlot (i := i) (by rw [hunit]) (by rw [hunit]), hstate, if_neg fun hx => hr hx.1, placed_eligible]

/-- The placed unit's slot, judged: its occupant is written and its state follows the unit's eligibility; no other slot is touched. -/
structure PlacedSlot (u : UnitNo) (i : SlotIx) (s t : State) : Prop where
  occupant : (t.slot i).occupant = .enrolled u
  charge : (t.slot i).charge = (s.slot i).charge
  granted : (t.slot i).granted = (s.slot i).granted
  pending : (t.slot i).pending = (s.slot i).pending
  others : ∀ j, j ≠ i → t.slot j = s.slot j
  joins : (s.slot i).state = .full → eligible s u = true → (t.slot i).state = .ready ∧ t.ready = s.ready ++ [u]
  stays : ¬ ((s.slot i).state = .full ∧ eligible s u = true) → (t.slot i).state = (s.slot i).state ∧ t.ready = s.ready

theorem judgeUnit_placedSlot {u : UnitNo} {i : SlotIx} {s : State} (hr : (s.slot i).state ≠ .ready) :
    PlacedSlot u i s (judgeUnit u (placed u i s)) := by
  rw [judgeUnit_placed hr]
  split
  · next hj =>
    refine ⟨?_, ?_, ?_, ?_, fun j hji => ?_, fun _ _ => ⟨?_, rfl⟩, fun hn => absurd hj hn⟩
    case refine_5 => rw [readyAppend_slot, changeSlot_slot_of_ne _ _ _ hji]; exact changeSlot_slot_of_ne _ _ _ hji
    all_goals simp [placed]
  · next hj =>
    refine ⟨?_, ?_, ?_, ?_, fun j hji => changeSlot_slot_of_ne _ _ _ hji, fun hf he => absurd ⟨hf, he⟩ hj, fun _ => ⟨?_, rfl⟩⟩
    all_goals simp [placed]

theorem PlacedSlot.through_answer {u : UnitNo} {i : SlotIx} {s t : State} (h : PlacedSlot u i s t) (p : PortId) (a : Answer) :
    PlacedSlot u i s (answerPort p a t) := by
  constructor
  all_goals simp only [answerPort_slot, answerPort_ready]
  case occupant => exact h.occupant
  case charge => exact h.charge
  case granted => exact h.granted
  case pending => exact h.pending
  case others => exact h.others
  case joins => exact h.joins
  case stays => exact h.stays

theorem enrol_placedSlot (u : UnitNo) {i : SlotIx} (kind : UnitKind) (serial : BitVec 32) (marks : Byte) (cycles : Nat) {s : State}
    (hr : (s.slot i).state ≠ .ready) :
    PlacedSlot u i (withNew u kind serial marks cycles s) (judgeUnit u (placed u i (withNew u kind serial marks cycles s))) :=
  judgeUnit_placedSlot hr

/-- The entry of a unit enrolled where its serial stands in a slot. -/
theorem enrol_unit_self (u : UnitNo) (i : SlotIx) (kind : UnitKind) (serial : BitVec 32) (marks : Byte) (cycles : Nat) (s : State) :
    (judgeUnit u (placed u i (withNew u kind serial marks cycles s))).unit u =
      { newEntry kind serial marks cycles with location := .inSlot, slot := some i, charge := (s.slot i).charge } := by
  rw [judgeUnit_unit, placed_unit_self, withNew_unit_self]
  rfl

theorem enrol_otherUnitsSame (u : UnitNo) (i : SlotIx) (kind : UnitKind) (serial : BitVec 32) (marks : Byte) (cycles : Nat) (s : State) :
    OtherUnitsSame u s (judgeUnit u (placed u i (withNew u kind serial marks cycles s))) := by
  intro v hv
  rw [judgeUnit_unit, placed_otherUnitsSame u i _ v hv, withNew_otherUnitsSame u kind serial marks cycles s v hv]

theorem enrol_samePortStates (u : UnitNo) (i : SlotIx) (kind : UnitKind) (serial : BitVec 32) (marks : Byte) (cycles : Nat) (s : State) :
    SamePortStates s (judgeUnit u (placed u i (withNew u kind serial marks cycles s))) :=
  (withNew_samePortStates u kind serial marks cycles s).trans ((placed_samePortStates u i _).trans (judgeUnit_samePortStates u _))

theorem enrol_fleetAndSlotsOnly (u : UnitNo) (i : SlotIx) (kind : UnitKind) (serial : BitVec 32) (marks : Byte) (cycles : Nat)
    (s : State) : FleetAndSlotsOnly s (judgeUnit u (placed u i (withNew u kind serial marks cycles s))) :=
  (withNew_fleetOnly u kind serial marks cycles s).fleetAndSlots.trans
    ((placed_fleetAndSlotsOnly u i _).trans (judgeUnit_fleetAndSlotsOnly u _))

/-- Settles O16: an accepted enrolment writes one entry, and a slot that holds its serial is taken over and judged; a retirement writes one
field and judges the unit. -/
theorem enrolmentWritesEntry : Obligations.EnrolmentWritesEntry := by
  intro q u s
  refine ⟨fun kind serial marks cycles h h0 hk hs => ⟨fun hno => ?loose, fun i hi hlow hr => ?inSlot⟩,
    fun h hk hi hr ha hn => ?retired⟩
  case loose =>
    refine ⟨_, exec_enrolUnit h h0 hk hs, ?_⟩
    rw [enrol_loose u kind marks cycles.toNat hno, withNew_unit_self]
    refine ⟨?_, fun v hv => ?_, (withNew_samePortStates u kind serial marks cycles.toNat s).answered,
      (withNew_fleetOnly ..).trans (answerPort_fleetOnly _ _ _)⟩
    · rw [answerPort_unit]
      exact withNew_unit_self ..
    · rw [answerPort_unit]
      exact withNew_otherUnitsSame u kind serial marks cycles.toNat s v hv
  case inSlot =>
    intro joins
    have hunit := enrol_unit_self u i kind serial marks cycles.toNat s
    have hjoins : joins ↔ (s.slot i).state = .full ∧ eligible (withNew u kind serial marks cycles.toNat s) u = true :=
      and_congr_right' (eligible_newEntry (withNew_unit_self ..)).symm
    refine ⟨_, exec_enrolUnit h h0 hk hs, ?_⟩
    rw [enrol_inSlot u kind marks cycles.toNat hi hlow, hunit]
    have hslot := (enrol_placedSlot u kind serial marks cycles.toNat hr).through_answer q.port (ok (.enrolled .inSlot (some i)))
    refine ⟨?_, fun v hv => ?_, hslot.occupant, hslot.charge, hslot.granted, hslot.pending, hslot.others, fun hj => ?_,
      fun hj => hslot.stays fun hx => hj (hjoins.2 hx), (enrol_samePortStates u i kind serial marks cycles.toNat s).answered,
      (enrol_fleetAndSlotsOnly ..).trans (answerPort_fleetAndSlotsOnly _ _ _)⟩
    · rw [answerPort_unit]
      exact hunit
    · rw [answerPort_unit]
      exact enrol_otherUnitsSame u i kind serial marks cycles.toNat s v hv
    · obtain ⟨hfull, heligible⟩ := hjoins.1 hj
      exact hslot.joins hfull heligible
  case retired =>
    refine ⟨_, exec_retireUnit h hk hi hr ha hn, ?_, fun v hv => ?_, (judgeUnit_withRetired_samePortStates u s).answered,
      (judgeUnit_withRetired_fleetAndSlotsOnly u s).trans (answerPort_fleetAndSlotsOnly _ _ _)⟩
    · rw [answerPort_unit, judgeUnit_unit]
      exact State.updUnit_unit_self ..
    · rw [answerPort_unit, judgeUnit_unit]
      exact updUnit_otherUnitsSame u _ s v hv

end Sys2Proof.Machine
end

section
/-! PROOFS. The closing of a lease (04 R69, 05 R89) and the end of a latch window (02 R46, 04 R73). -/

namespace Sys2Proof.Machine

/-! ## What only the roster and the plan may change -/

theorem RosterOnly.trans {s t u : State} (h : RosterOnly s t) (k : RosterOnly t u) : RosterOnly s u := by
  have hk := congrArg (fun x : State => { x with desk := s.desk, transmitter := s.transmitter, operations := s.operations }) k
  have hh := congrArg (fun x : State =>
    { x with
      fleet := u.fleet, slots := u.slots, racks := u.racks, ready := u.ready, armed := u.armed, groups := u.groups, tune := u.tune,
      resync := u.resync, channels := u.channels, mix := u.mix, players := u.players, path := u.path, store := u.store,
      emergency := u.emergency }) h
  exact hk.trans hh

theorem RosterOnly.charge {s t : State} (h : RosterOnly s t) : t.charge = s.charge := by
  have hc := congrArg State.charge h
  exact hc

/-- What the pool and the plan may change lies within what the roster's decisions reach. -/
theorem PlanFrame.rosterOnly {s t : State} (h : PlanFrame s t) : RosterOnly s t := by
  cases s
  cases t
  cases h
  simp_all [RosterOnly, SameButPorts]

theorem FleetAndSlotsOnly.rosterOnly {s t : State} (h : FleetAndSlotsOnly s t) : RosterOnly s t := by
  have hh := congrArg (fun x : State =>
    { x with
      racks := t.racks, groups := t.groups, tune := t.tune, resync := t.resync, channels := t.channels, mix := t.mix,
      players := t.players, path := t.path, store := t.store, emergency := t.emergency }) h
  exact hh

/-! ## What the end of a lease leaves of the fleet and the racks -/

/-- An entry but for its assignment and its LOW_REPORTED is the same. -/
def SameButAssignment (e f : UnitEntry) : Prop := { f with assigned := e.assigned, lowReported := e.lowReported } = e

theorem SameButAssignment.trans {e f g : UnitEntry} (h : SameButAssignment e f) (k : SameButAssignment f g) : SameButAssignment e g := by
  have hk := congrArg (fun x : UnitEntry => { x with assigned := e.assigned, lowReported := e.lowReported }) k
  exact hk.trans h

/-- What follows a cleared lease, the park order and the ending of a group: the slots, the racks and the ready queue stand, and an entry can
lose its assignment and its LOW_REPORTED alone. -/
structure LeaseKept (s t : State) : Prop where
  slots : t.slots = s.slots
  racks : t.racks = s.racks
  ready : t.ready = s.ready
  units : ∀ v, SameButAssignment (s.unit v) (t.unit v)
  frame : RosterOnly s t

theorem LeaseKept.refl (s : State) : LeaseKept s s := ⟨rfl, rfl, rfl, fun _ => rfl, rfl⟩

theorem LeaseKept.trans {s t u : State} (h : LeaseKept s t) (k : LeaseKept t u) : LeaseKept s u :=
  ⟨k.slots.trans h.slots, k.racks.trans h.racks, k.ready.trans h.ready, fun v => (h.units v).trans (k.units v),
    h.frame.trans k.frame⟩

theorem PlanFrame.leaseKept {s t : State} (h : PlanFrame s t) : LeaseKept s t := by
  refine ⟨h.slots, h.racks, h.ready, fun v => ?_, h.rosterOnly⟩
  simp only [State.unit, h.fleet]
  rfl

theorem queueNotice_leaseKept (k : NoticeKind) (j : Subject) (d : Detail) (s : State) : LeaseKept s (queueNotice k j d s) :=
  (queueNotice_frame k j d s).leaseKept

theorem enqueueOrder_leaseKept (u : UnitNo) (air : Nat) (s : State) : LeaseKept s (enqueueOrder u air s) := by
  unfold enqueueOrder
  split
  · exact ⟨rfl, rfl, rfl, fun _ => rfl, rfl⟩
  · exact ⟨rfl, rfl, rfl, fun _ => rfl, rfl⟩
  · have hs : LeaseKept s { s with resync := true } := ⟨rfl, rfl, rfl, fun _ => rfl, rfl⟩
    dsimp only
    split
    · exact hs
    · exact hs.trans (queueNotice_leaseKept ..)

theorem park_leaseKept (u : UnitNo) (s : State) : LeaseKept s (park u s) := enqueueOrder_leaseKept u 0 s

theorem releaseMic_leaseKept (gr : Group) (s : State) : LeaseKept s (releaseMic gr s) := by
  unfold releaseMic
  split
  · refine ⟨rfl, rfl, rfl, fun v => ?_, rfl⟩
    rw [State.updUnit_unit]
    split <;> rfl
  · exact LeaseKept.refl s

theorem releaseChannel_leaseKept (gr : Group) (s : State) : LeaseKept s (releaseChannel gr s) := by
  unfold releaseChannel
  split
  · exact (unbindChannel_frame _ _).leaseKept
  · exact LeaseKept.refl s

theorem parkMic_leaseKept (gr : Group) (s : State) : LeaseKept s (parkMic gr s) := by
  unfold parkMic
  split
  · exact park_leaseKept _ _
  · exact LeaseKept.refl s

theorem updGroup_leaseKept (g : GroupNo) (f : Group → Group) (s : State) : LeaseKept s (s.updGroup g f) :=
  ⟨rfl, rfl, rfl, fun _ => rfl, rfl⟩

theorem endGroup_leaseKept (g : GroupNo) (s : State) : LeaseKept s (endGroup g s).1 :=
  (((releaseMic_leaseKept _ _).trans (releaseChannel_leaseKept _ _)).trans (parkMic_leaseKept _ _)).trans (updGroup_leaseKept _ _ _)

theorem queueEmpty_leaseKept (n : PendingEmpty) (s : State) : LeaseKept s (queueEmpty n s) := by
  unfold queueEmpty
  split
  · exact queueNotice_leaseKept ..
  · exact LeaseKept.refl s

/-! ## A lease cleared and closed (04 R69) -/

/-- A closed lease is a cleared one with what follows from it. -/
theorem closeLease_leaseKept (u : UnitNo) (s : State) : LeaseKept (clearLease u s) (closeLease u s).1 := by
  have hpark := park_leaseKept u (clearLease u s)
  unfold closeLease
  dsimp only
  split
  · split
    · exact hpark.trans (endGroup_leaseKept _ _)
    · exact hpark
  · exact hpark

/-- A cleared lease writes the unit's entry and a group's member count. -/
theorem clearLease_eq (u : UnitNo) (s : State) : ∃ groups, clearLease u s =
    { s.updUnit u (fun e => { e with group := none, channel := none, deadline := none, overdue := false, lowReported := false }) with
      groups := groups } := by
  unfold clearLease
  dsimp only
  split
  · exact ⟨_, rfl⟩
  · exact ⟨s.groups, rfl⟩

/-- A unit put back in its slot with its lease closed (04 R73, R76). -/
def returned (u : UnitNo) (i : SlotIx) (s : State) : State := (closeLease u (standIn u i s)).1

/-- The entry of a unit that stands in a slot with no lease. -/
def returnedEntry (i : SlotIx) (e : UnitEntry) : UnitEntry :=
  { e with
    location := .inSlot, slot := some i, group := none, channel := none, deadline := none, overdue := false, lowReported := false }

/-- What a return leaves of the state it acts on. -/
structure ReturnKept (u : UnitNo) (i : SlotIx) (s t : State) : Prop where
  slots : t.slots = s.slots
  racks : t.racks = s.racks
  ready : t.ready = s.ready
  entry : SameButAssignment (returnedEntry i (s.unit u)) (t.unit u)
  frame : RosterOnly s t

theorem ReturnKept.leaseKept {u : UnitNo} {i : SlotIx} {s t r : State} (h : ReturnKept u i s t) (k : LeaseKept t r) :
    ReturnKept u i s r :=
  ⟨k.slots.trans h.slots, k.racks.trans h.racks, k.ready.trans h.ready, h.entry.trans (k.units u), h.frame.trans k.frame⟩

theorem returned_kept (u : UnitNo) (i : SlotIx) (s : State) : ReturnKept u i s (returned u i s) := by
  have hclear : ReturnKept u i s (clearLease u (standIn u i s)) := by
    obtain ⟨groups, h⟩ := clearLease_eq u (standIn u i s)
    rw [h]
    refine ⟨rfl, rfl, rfl, ?_, rfl⟩
    have hu : (standIn u i s).unit u = { s.unit u with location := .inSlot, slot := some i } := State.updUnit_unit_self ..
    have hentry : ∀ f : UnitEntry → UnitEntry, ({ (standIn u i s).updUnit u f with groups := groups } : State).unit u =
        f { s.unit u with location := .inSlot, slot := some i } := fun f => hu ▸ State.updUnit_unit_self ..
    rw [hentry]
    rfl
  exact hclear.leaseKept (closeLease_leaseKept u (standIn u i s))

theorem ReturnKept.eligible_eq {u : UnitNo} {i : SlotIx} {s t : State} (h : ReturnKept u i s t) : eligible t u = eligible s u := by
  have hkind := congrArg UnitEntry.kind h.entry
  have hretired := congrArg UnitEntry.retired h.entry
  have hmarks := congrArg UnitEntry.marks h.entry
  have hcycles := congrArg UnitEntry.cycles h.entry
  have hfault := congrArg UnitEntry.batteryFault h.entry
  simp only [returnedEntry] at hkind hretired hmarks hcycles hfault
  simp only [eligible, serviceDue, hkind, hretired, hmarks, hcycles, hfault, h.frame.charge]

/-- An entry that agrees with a returned one shows the unit in the slot, with no lease. -/
theorem SameButAssignment.returned {i : SlotIx} {e f : UnitEntry} (h : SameButAssignment (returnedEntry i e) f) :
    f.location = .inSlot ∧ f.slot = some i ∧ f.group = none ∧ f.channel = none ∧ f.deadline = none ∧ f.overdue = false :=
  ⟨congrArg UnitEntry.location h, congrArg UnitEntry.slot h, congrArg UnitEntry.group h, congrArg UnitEntry.channel h,
    congrArg UnitEntry.deadline h, congrArg UnitEntry.overdue h⟩

/-! ## The end of a latch window (02 R46, 04 R73) -/

/-- What relatching a slot writes: READY with its unit at the head of the queue, or FULL. -/
structure Relatched (u : UnitNo) (i : SlotIx) (s t : State) : Prop where
  window : (t.slot i).window = none
  others : ∀ j, j ≠ i → t.slot j = s.slot j
  racks : t.racks = s.racks
  units : ∀ v, t.unit v = s.unit v
  frame : RosterOnly s t
  ready : eligible s u = true → (t.slot i).state = .ready ∧ (t.slot i).out = ⟨true, 0, .ready⟩ ∧ t.ready = u :: s.ready
  full : eligible s u = false → (t.slot i).state = .full ∧ t.ready = s.ready

theorem relatch_relatched (u : UnitNo) (i : SlotIx) (s : State) : Relatched u i s (relatch u i s) := by
  unfold relatch
  split
  · next he =>
    refine ⟨?_, fun j hj => changeSlot_slot_of_ne _ _ _ hj, rfl, fun _ => rfl, rfl, fun _ => ⟨?_, ?_, rfl⟩, fun hn => ?_⟩
    · simp
    · simp
    · rw [readyPush_slot, changeSlot_out]; rfl
    · rw [he] at hn; cases hn
  · next he =>
    refine ⟨?_, fun j hj => changeSlot_slot_of_ne _ _ _ hj, rfl, fun _ => rfl, rfl, fun hp => absurd hp he, fun _ => ⟨?_, rfl⟩⟩
    · simp
    · simp

theorem Relatched.leaseKept {u : UnitNo} {i : SlotIx} {s t r : State} (h : Relatched u i s t) (hk : LeaseKept t r)
    (hu : ∀ v, r.unit v = t.unit v) : Relatched u i s r := by
  have hslot : ∀ j, r.slot j = t.slot j := fun j => by simp only [State.slot, hk.slots]
  refine ⟨?_, fun j hj => ?_, hk.racks.trans h.racks, fun v => (hu v).trans (h.units v), h.frame.trans hk.frame, ?_, ?_⟩
  · rw [hslot]; exact h.window
  · rw [hslot]; exact h.others j hj
  · rw [hslot, hk.ready]; exact h.ready
  · rw [hslot, hk.ready]; exact h.full

theorem queueEmpty_unit (n : PendingEmpty) (s : State) (v : UnitNo) : (queueEmpty n s).unit v = s.unit v := by
  cases n <;> rfl

/-- A window that expires without a removal: the unit returned to its slot, and the slot relatched. -/
theorem endWindow_relatched (u : UnitNo) (i : SlotIx) (cause : Nat) (s : State) :
    Relatched u i (returned u i s) (endWindow u i cause (relatch u i) s) := by
  unfold endWindow
  dsimp only
  exact (relatch_relatched u i _).leaseKept ((queueNotice_leaseKept ..).trans (queueEmpty_leaseKept _ _)) fun v => queueEmpty_unit _ _ v

theorem exec_latchWindowExpiry {r : RackNo} {k : SlotNo} {s : State} (h : (s.slot (slotIx r k)).state = .releasing) :
    exec (.latchWindowExpiry r k) s = .next (expireWindow (slotIx r k) s) := by
  exact congrArg Host.Outcome.next (if_pos h)

/-- Settles O32: the lease closes without touching what eligibility or the slots depend on, and the slot relatches. -/
theorem windowExpiryReturnsUnit : Obligations.WindowExpiryReturnsUnit := by
  intro r k s h
  refine ⟨fun u hu => ?_, fun hno => ?_⟩
  · have hrun : expireWindow (slotIx r k) s = endWindow u (slotIx r k) 0 (relatch u (slotIx r k)) s := by
      simp only [expireWindow, hu]
    have hkept := returned_kept u (slotIx r k) s
    have hlatch := endWindow_relatched u (slotIx r k) 0 s
    have hslot : ∀ j, (returned u (slotIx r k) s).slot j = s.slot j := fun j => by simp only [State.slot, hkept.slots]
    obtain ⟨hloc, hsl, hgroup, hchannel, hdeadline, hoverdue⟩ := hkept.entry.returned
    refine ⟨_, exec_latchWindowExpiry h, ?_⟩
    rw [hrun, hlatch.units u, ← hkept.eligible_eq, ← hkept.ready, ← hkept.racks]
    exact ⟨hloc, hsl, hgroup, hchannel, hdeadline, hoverdue, hlatch.ready, hlatch.full, hlatch.window,
      fun j hj => (hlatch.others j hj).trans (hslot j), hlatch.racks, hkept.frame.trans hlatch.frame⟩
  · have hrun : expireWindow (slotIx r k) s = changeSlot (slotIx r k) (fun sl => { sl with state := .full, window := none }) s := by
      unfold expireWindow
      split
      · next u hu => exact absurd hu (hno u)
      · rfl
    refine ⟨_, exec_latchWindowExpiry h, ?_⟩
    rw [hrun]
    exact ⟨by simp, by simp, fun j hj => changeSlot_slot_of_ne _ _ _ hj, changeSlot_restored _ _ _⟩

end Sys2Proof.Machine
end

section
/-! PROOFS. Resets (12 R205, R206, R208): what the record load writes, and what every reset leaves at its value after reset. -/

namespace Sys2Proof.Machine

/-! ## The record load (12 R205) -/

/-- Nothing but the configuration and the ports differs. -/
def ConfigOnly (s t : State) : Prop :=
  SameButPorts
    { s with
      recordValid := t.recordValid, siteCode := t.siteCode, fleet := t.fleet, channels := t.channels, mix := t.mix, charge := t.charge,
      issue := t.issue, racks := t.racks, prot := t.prot, emergency := t.emergency } t

theorem loadConfig_configOnly (s : State) : ConfigOnly s (loadPorts (loadConfig s)) := by
  unfold loadConfig
  dsimp only
  split <;> rfl

theorem loadedUnit_loose (m : List Host.Cell) (u : UnitNo) : (loadedUnit m u).location = .loose ∧ (loadedUnit m u).group = none := by
  simp only [loadedUnit, loadUnit]
  split <;> exact ⟨rfl, rfl⟩

/-- What the record, valid or not, leaves in the blocks that hold configuration. -/
structure LoadedBlocks (t : State) : Prop where
  configured : Configured t
  channels : ∀ c, t.channel c = freshChannel (t.channel c).config
  mix : ∀ c, t.mix.get c = ⟨32768, (t.channel c).config.masterGain, 0⟩
  racks : ∀ r, t.rack r = { resetRack with budget := (t.rack r).budget }
  units : ∀ u, (t.unit u).location = .loose ∧ (t.unit u).group = none
  emergency : t.emergency = { resetEmergency with languages := t.emergency.languages, defaultClip := t.emergency.defaultClip }

/-- The blocks loaded from a valid record. -/
theorem loadConfig_valid {s : State} (h : recordIsValid s.mem = true) : LoadedBlocks (loadPorts (loadConfig s)) := by
  rw [loadConfig, if_pos h]
  have hchannel : ∀ c, (Table.ofFn fun c => freshChannel (storedChannel s.mem c)).get c = freshChannel (storedChannel s.mem c) :=
    Table.get_ofFn _
  refine ⟨?_, fun c => ?_, fun c => ?_, fun r => ?_, fun u => ?_, rfl⟩
  · refine (if_pos h).mpr ⟨rfl, rfl, rfl, rfl, rfl, fun c => ?_, fun r => ?_, Table.get_ofFn _, rfl, Table.get_ofFn _⟩
    · exact congrArg Channel.config (hchannel c)
    · exact congrArg Rack.budget (Table.get_ofFn _ r)
  all_goals simp [loadPorts, State.channel, State.rack, State.unit, freshChannel, loadedUnit_loose]

/-- The part as a reset leaves it when the straps are sampled and the store is scanned, before the record load (12 R206). -/
def scanned (kind : ResetKind) (straps : Straps) (s : State) : State :=
  let s1 := clearBlocks kind straps s
  { s1 with directory := scanDirectory s1.mem, blocks := Table.ofFn (scanTable s1.mem (scanDirectory s1.mem)) }

/-- The blocks at their defaults, as a reset with no valid record leaves them. -/
theorem loadConfig_invalid {kind : ResetKind} {straps : Straps} {s : State} (h : ¬ recordIsValid s.mem = true) :
    LoadedBlocks (loadPorts (loadConfig (scanned kind straps s))) := by
  have hload : loadConfig (scanned kind straps s) = scanned kind straps s := if_neg h
  rw [hload]
  have hchannel : ∀ c, (loadPorts (scanned kind straps s)).channel c = freshChannel defaultChannel := Table.get_fill _
  have hrack : ∀ r, (loadPorts (scanned kind straps s)).rack r = resetRack := Table.get_fill _
  have hunit : ∀ u, (loadPorts (scanned kind straps s)).unit u = vacantEntry := Table.get_fill _
  refine ⟨?_, fun c => ?_, fun c => ?_, fun r => ?_, fun u => ?_, rfl⟩
  · refine (if_neg h).mpr ⟨rfl, rfl, rfl, rfl, rfl, fun c => ?_, fun r => ?_, Table.get_fill _, rfl, hunit⟩
    · exact congrArg Channel.config (hchannel c)
    · exact congrArg Rack.budget (hrack r)
  · rw [hchannel]
    rfl
  · rw [hchannel]; exact Table.get_fill _ c
  · rw [hrack]
  · rw [hunit]; exact ⟨rfl, rfl⟩

/-! ## The reset (12 R206, R208) -/

/-- What store work cut short leaves differs from the state before in the array and the free counter alone (08 R159). -/
theorem cutShort_eq (s : State) : ∃ m k, cutShort s = { s with mem := m, free := k } := by
  unfold cutShort
  split
  · exact ⟨_, _, rfl⟩
  · split
    · exact ⟨_, _, rfl⟩
    · split
      · unfold stopErase
        split
        · exact ⟨_, _, rfl⟩
        · exact ⟨s.mem, s.free, rfl⟩
      · exact ⟨s.mem, s.free, rfl⟩

@[simp] theorem cutShort_pending (s : State) : (cutShort s).pending = s.pending := by
  obtain ⟨m, k, h⟩ := cutShort_eq s
  rw [h]

@[simp] theorem cutShort_key (s : State) : (cutShort s).key = s.key := by
  obtain ⟨m, k, h⟩ := cutShort_eq s
  rw [h]

theorem boot_eq (kind : ResetKind) (straps : Straps) (s : State) :
    boot kind straps s = loadPorts (loadConfig (scanned kind straps (cutShort s))) := rfl

theorem boot_configOnly (kind : ResetKind) (straps : Straps) (s : State) :
    ConfigOnly (scanned kind straps (cutShort s)) (boot kind straps s) := loadConfig_configOnly _

theorem boot_loadedBlocks (kind : ResetKind) (straps : Straps) (s : State) : LoadedBlocks (boot kind straps s) := by
  rw [boot_eq]
  by_cases h : recordIsValid (cutShort s).mem = true
  · exact loadConfig_valid h
  · exact loadConfig_invalid h

theorem boot_phase (kind : ResetKind) (straps : Straps) (s : State) : (boot kind straps s).phase = .startUp :=
  (congrArg State.phase (boot_configOnly kind straps s) :)

theorem boot_mem (kind : ResetKind) (straps : Straps) (s : State) : (boot kind straps s).mem = (cutShort s).mem :=
  (congrArg State.mem (boot_configOnly kind straps s) :)

theorem boot_directory (kind : ResetKind) (straps : Straps) (s : State) :
    (boot kind straps s).directory = scanDirectory (boot kind straps s).mem := by
  rw [boot_mem]
  exact (congrArg State.directory (boot_configOnly kind straps s) :)

theorem boot_blocks (kind : ResetKind) (straps : Straps) (s : State) (b : BlockNo) :
    (boot kind straps s).blocks.get b = scanTable (boot kind straps s).mem (boot kind straps s).directory b := by
  rw [boot_directory, boot_mem]
  exact (congrArg (·.blocks.get b) (boot_configOnly kind straps s) :).trans (Table.get_ofFn _ b)

/-- A port after a reset: STARTING, at its values after reset but for what the straps enable and the record subscribes (11 R185). -/
theorem boot_port (kind : ResetKind) (straps : Straps) (s : State) (p : PortId) :
    (boot kind straps s).port p =
      { resetPort with enabled := ((boot kind straps s).port p).enabled, mask := loadedMask (boot kind straps s) p } := by
  cases p <;> rfl

theorem boot_enabled (kind : ResetKind) (straps : Straps) (s : State) :
    (⟨(boot kind straps s).desk.enabled, (boot kind straps s).transmitter.enabled, (boot kind straps s).operations.enabled⟩ : Straps)
      = enabledPorts straps :=
  congrArg enabledPorts (congrArg State.straps (boot_configOnly kind straps s) :)

/-- A port that executes nothing is left alone by a request that waits. -/
theorem keepWaiting_of_starting {p : PortId} {s : State} (h : (s.port p).state = .starting) : keepWaiting p s = s := by
  cases p
  all_goals
    simp only [State.port] at h
    simp only [keepWaiting, State.updPort, h]

/-- Reset Part answers nothing: the port that sent it is STARTING with the others (11 R201). -/
theorem exec_resetPart {q : Req} {s : State} (h : InHand .resetPart q s) :
    exec (.resetPart q) s = .next (boot .resetPart s.straps s) := by
  have hwait : exec (.resetPart q) s = .next (keepWaiting q.port (boot .resetPart s.straps s)) :=
    congrArg Host.Outcome.next (serve_wait h.1 h.2 rfl)
  rw [hwait, keepWaiting_of_starting (by rw [boot_port]; rfl)]

/-- Settles O59: every reset is one boot, whose blocks are those of the cleared part but for what the record loads and the straps enable; the
reset line's hold differs in the phase alone. -/
theorem resetsBeginStartUp : Obligations.ResetsBeginStartUp := by
  intro q straps s fresh
  have hboot : ∀ kind st ph, fresh kind st { boot kind st s with phase := ph } := by
    intro kind st ph
    have hf := boot_configOnly kind st s
    have hl := boot_loadedBlocks kind st s
    have hport := boot_port kind st s
    have hmem := boot_mem kind st s
    have hdirectory := boot_directory kind st s
    have hblocks := boot_blocks kind st s
    have henabled := boot_enabled kind st s
    generalize boot kind st s = t at *
    exact ⟨
      (congrArg State.resetKind hf :),
      (congrArg State.straps hf :),
      fun i => (congrArg (·.slot i) hf :).trans (Table.get_fill _ i),
      fun p => (congrArg (·.player p) hf :).trans (Table.get_fill _ p),
      fun g => (congrArg (·.group g) hf :).trans (Table.get_fill _ g),
      (congrArg State.ready hf :),
      (congrArg State.tune hf :),
      (congrArg State.resync hf :),
      (congrArg State.siteTime hf :),
      congrArg Emergency.raised hl.emergency,
      congrArg Emergency.input hl.emergency,
      (congrArg State.store hf :),
      (congrArg State.path hf :),
      fun c => ⟨congrArg Channel.state (hl.channels c), congrArg Channel.group (hl.channels c)⟩,
      fun c => (congrArg (·.outNext.get c) hf :).trans (Table.get_fill _ c),
      fun p => ⟨congrArg Port.state (hport p), congrArg Port.queue (hport p), congrArg Port.lost (hport p)⟩,
      (congrArg State.pending hf :).trans (cutShort_pending s),
      hl.units,
      (congrArg State.key hf :).trans (cutShort_key s),
      hl.configured,
      (congrArg State.startUp hf :),
      (congrArg State.armed hf :),
      (congrArg State.window hf :),
      hmem,
      hdirectory,
      hblocks,
      hl.racks,
      fun k => (congrArg (·.presence.get k) hf :).trans (Table.get_fill _ k),
      fun k => (congrArg (·.links.get k) hf :).trans (Table.get_fill _ k),
      hl.channels,
      hl.mix,
      fun c => (congrArg (·.outNow.get c) hf :).trans (Table.get_fill _ c),
      fun p => (congrArg (·.serves.get p) hl.emergency :).trans (Table.get_fill _ p),
      fun c => (congrArg (·.assigned.get c) hl.emergency :).trans (Table.get_fill _ c),
      hport,
      henabled⟩
  have hstart : ∀ kind st, fresh kind st (boot kind st s) := fun kind st => hboot kind st (boot kind st s).phase
  refine ⟨⟨_, rfl, hstart _ _, boot_phase _ _ s⟩, ⟨_, rfl, hboot _ _ _, rfl⟩, fun hheld => ?_, fun h => ?_⟩
  · refine ⟨_, congrArg Host.Outcome.next (if_pos ?_), hstart _ _, boot_phase _ _ s⟩
    simp [isHeld, hheld]
  · exact ⟨_, exec_resetPart h, hstart _ _, boot_phase _ _ s⟩

end Sys2Proof.Machine
end

section
/-! PROOFS. The budget arbiters (03 R49 to R58): what a revocation keeps, what an arbiter's work on one rack leaves alone, and that it leaves
the rack's granted sum within its budget. -/

namespace Sys2Proof.Machine

/-! ## Revocation (03 R57) -/

/-- Read latest first, the grants that stand are the oldest ones. -/
theorem fitGrants_suffix (budget : Nat) (gs : List Grant) : fitGrants budget gs <:+ gs := by
  induction gs with
  | nil => exact List.suffix_rfl
  | cons g rest ih =>
    unfold fitGrants
    split
    · exact List.suffix_rfl
    · exact ih.trans (List.suffix_cons g rest)

/-- The grant revoked last did not fit on top of those that stand. -/
theorem fitGrants_maximal {budget : Nat} {gs later : List Grant} {g : Grant} (h : gs = later ++ g :: fitGrants budget gs) :
    budget < sumGrants (g :: fitGrants budget gs) := by
  induction gs generalizing later with
  | nil => simp at h
  | cons x rest ih =>
    by_cases hfit : sumGrants (x :: rest) ≤ budget
    · have hlen := congrArg List.length h
      simp only [fitGrants, if_pos hfit, List.length_append, List.length_cons] at hlen
      omega
    · simp only [fitGrants, if_neg hfit] at h ⊢
      obtain ⟨-, h⟩ | ⟨before, -, h⟩ := List.cons_eq_append_iff.1 h
      · rw [h]; exact Nat.lt_of_not_le hfit
      · exact ih h

theorem keptGrants_isPrefix (budget : Nat) (gs : List Grant) : keptGrants budget gs <+: gs := by
  have h := (fitGrants_suffix budget gs.reverse).reverse
  rwa [List.reverse_reverse] at h

theorem keptGrants_append_revokedGrants (budget : Nat) (gs : List Grant) :
    keptGrants budget gs ++ revokedGrants budget gs = gs :=
  List.prefix_iff_eq_append.1 (keptGrants_isPrefix budget gs)

theorem keptGrants_maximal {budget : Nat} {gs rest : List Grant} {g : Grant} (h : revokedGrants budget gs = g :: rest) :
    budget < sumGrants (keptGrants budget gs ++ [g]) := by
  have hgs : gs.reverse = rest.reverse ++ g :: fitGrants budget gs.reverse := by
    have happ := congrArg List.reverse (keptGrants_append_revokedGrants budget gs)
    rw [h] at happ
    simpa [keptGrants] using happ.symm
  have hlt := fitGrants_maximal hgs
  simp only [sumGrants_cons, sumGrants_append, sumGrants_nil, keptGrants, sumGrants_reverse] at hlt ⊢
  omega

/-- Settles O27: latest first, a revocation drops grants until the rest fits, so what it keeps is a head of the list and one grant more is
too much. -/
theorem revocationIsShortest : Obligations.RevocationIsShortest := fun budget gs =>
  ⟨keptGrants_append_revokedGrants budget gs, keptGrants_fit budget gs, fun _ _ => keptGrants_maximal⟩

/-! ## What the arbiter's work on one rack leaves alone -/

theorem rackOf_slotIx (r : RackNo) (k : SlotNo) : rackOf (slotIx r k) = r := by
  apply Fin.ext
  simp only [rackOf, slotIx]
  omega

/-- Only one rack's record and slots differ. -/
structure ArbiterOnly (r : RackNo) (s t : State) : Prop where
  racks : ∀ r', r' ≠ r → t.rack r' = s.rack r'
  slots : ∀ i, rackOf i ≠ r → t.slot i = s.slot i
  frame : { s with slots := t.slots, racks := t.racks } = t

theorem ArbiterOnly.refl (r : RackNo) (s : State) : ArbiterOnly r s s := ⟨fun _ _ => rfl, fun _ _ => rfl, rfl⟩

theorem ArbiterOnly.trans {r : RackNo} {s t u : State} (h : ArbiterOnly r s t) (k : ArbiterOnly r t u) : ArbiterOnly r s u := by
  refine ⟨fun r' hr => (k.racks r' hr).trans (h.racks r' hr), fun i hi => (k.slots i hi).trans (h.slots i hi), ?_⟩
  rw [← k.frame, ← h.frame]

theorem ArbiterOnly.samePortStates {r : RackNo} {s t : State} (h : ArbiterOnly r s t) : SamePortStates s t := by
  rw [← h.frame]
  exact fun p => by cases p <;> rfl

theorem updRack_arbiterOnly (r : RackNo) (f : Rack → Rack) (s : State) : ArbiterOnly r s (s.updRack r f) := by
  refine ⟨fun r' hr => ?_, fun _ _ => rfl, rfl⟩
  rw [State.updRack_rack, if_neg hr.symm]

theorem changeSlot_arbiterOnly {r : RackNo} {i : SlotIx} (h : rackOf i = r) (f : Slot → Slot) (s : State) :
    ArbiterOnly r s (changeSlot i f s) :=
  ⟨fun _ _ => rfl, fun _ hj => changeSlot_slot_of_ne i f s fun hi => hj (hi ▸ h), rfl⟩

theorem grantHead_arbiterOnly (r : RackNo) (k : SlotNo) (ph : Phase) (s : State) : ArbiterOnly r s (grantHead r k ph s) :=
  (updRack_arbiterOnly r _ s).trans (changeSlot_arbiterOnly (rackOf_slotIx r k) _ _)

theorem evaluateAlong_arbiterOnly (r : RackNo) (waits : List SlotNo) (s : State) : ArbiterOnly r s (evaluateAlong r waits s) := by
  induction waits generalizing s with
  | nil => exact ArbiterOnly.refl r s
  | cons k rest ih =>
    unfold evaluateAlong
    split
    · split
      · exact (grantHead_arbiterOnly r k _ s).trans (ih _)
      · exact ArbiterOnly.refl r s
    · exact ArbiterOnly.refl r s

theorem evaluate_arbiterOnly (r : RackNo) (s : State) : ArbiterOnly r s (evaluate r s) := evaluateAlong_arbiterOnly r _ s

theorem revokeSlot_arbiterOnly (r : RackNo) (k : SlotNo) (s : State) : ArbiterOnly r s (revokeSlot (slotIx r k) s) :=
  changeSlot_arbiterOnly (rackOf_slotIx r k) _ s

/-- The slots of revoked grants put back to WAIT_BUDGET (03 R57). -/
def revokeSlots (r : RackNo) (gone : List Grant) (s : State) : State :=
  gone.foldl (fun t g => revokeSlot (slotIx r g.slot) t) s

theorem revokeSlots_arbiterOnly (r : RackNo) (gone : List Grant) (s : State) : ArbiterOnly r s (revokeSlots r gone s) :=
  List.foldlRecOn gone _ (ArbiterOnly.refl r s) fun _ h g _ => h.trans (revokeSlot_arbiterOnly r g.slot _)

@[simp] theorem revokeSlots_rack (r r' : RackNo) (gone : List Grant) (s : State) :
    (revokeSlots r gone s).rack r' = s.rack r' :=
  List.foldlRecOn (motive := fun t : State => t.rack r' = s.rack r') gone _ rfl fun _ h _ _ => h

/-- The rack's record under a new budget, before its wait list is evaluated (03 R57, R58). -/
def cutBack (budget : Nat) (a : Rack) : Rack :=
  { a with
    budget := budget, grants := keptGrants budget a.grants, waits := (revokedGrants budget a.grants).map (·.slot) ++ a.waits }

/-- A budget replaced is the rack cut back, its revoked slots put back, and an evaluation. -/
theorem applyBudget_eq (r : RackNo) (budget : Nat) (s : State) :
    applyBudget r budget s =
      evaluate r (revokeSlots r (revokedGrants budget (s.rack r).grants) (s.updRack r (cutBack budget))) := rfl

theorem applyBudget_arbiterOnly (r : RackNo) (budget : Nat) (s : State) : ArbiterOnly r s (applyBudget r budget s) := by
  rw [applyBudget_eq]
  exact ((updRack_arbiterOnly r _ s).trans (revokeSlots_arbiterOnly r _ _)).trans (evaluate_arbiterOnly r _)

/-! ## The granted sum stays within the budget -/

/-- A rack has this budget and its granted sum lies within it (03 R49). -/
def Within (budget : Nat) (a : Rack) : Prop := a.budget = budget ∧ grantedSum a ≤ budget

@[simp] theorem changeSlot_rack (i : SlotIx) (f : Slot → Slot) (s : State) (r : RackNo) : (changeSlot i f s).rack r = s.rack r := rfl

theorem grantHead_within {budget : Nat} {r : RackNo} {s : State} (k : SlotNo) {ph : Phase} (h : Within budget (s.rack r))
    (hfit : asked s ph ≤ remaining (s.rack r)) : Within budget ((grantHead r k ph s).rack r) := by
  obtain ⟨hbudget, hsum⟩ := h
  simp only [remaining, hbudget, grantedSum] at hfit hsum
  simp only [Within, grantHead, changeSlot_rack, State.updRack_rack_self, grantedSum, sumGrants_append, sumGrants_cons, sumGrants_nil]
  exact ⟨hbudget, by omega⟩

theorem evaluateAlong_within {budget : Nat} {r : RackNo} (waits : List SlotNo) {s : State} (h : Within budget (s.rack r)) :
    Within budget ((evaluateAlong r waits s).rack r) := by
  induction waits generalizing s with
  | nil => exact h
  | cons k rest ih =>
    unfold evaluateAlong
    split
    · split
      · next hfit => exact ih (grantHead_within k h hfit)
      · exact h
    · exact h

theorem evaluate_within {budget : Nat} {r : RackNo} {s : State} (h : Within budget (s.rack r)) :
    Within budget ((evaluate r s).rack r) := evaluateAlong_within _ h

theorem applyBudget_within (r : RackNo) (budget : Nat) (s : State) : Within budget ((applyBudget r budget s).rack r) := by
  rw [applyBudget_eq]
  refine evaluate_within ?_
  rw [revokeSlots_rack, State.updRack_rack_self]
  exact ⟨rfl, keptGrants_fit budget _⟩

/-! ## Set Rack Budget (03 R56) -/

@[simp] theorem answerPort_rack (p : PortId) (a : Answer) (s : State) (r : RackNo) : (answerPort p a s).rack r = s.rack r := by
  simp [answerPort]

/-- An answer after an arbiter's work leaves all but the racks, the slots and the ports alone. -/
theorem ArbiterOnly.answered_frame {r : RackNo} {s t : State} (h : ArbiterOnly r s t) (p : PortId) (a : Answer) :
    SameButPorts { s with slots := (answerPort p a t).slots, racks := (answerPort p a t).racks } (answerPort p a t) := by
  have hs : (answerPort p a t).slots = t.slots := State.updPort_slots ..
  have hr : (answerPort p a t).racks = t.racks := State.updPort_racks ..
  rw [hs, hr, h.frame]
  exact answerPort_sameButPorts p a t

theorem exec_setRackBudget {q : Req} {s : State} (r : RackNo) (budget : Nat) (h : InHand .setRackBudget q s) :
    exec (.setRackBudget q r.val budget) s =
      (let applied := min budget 8000
       let t := applyBudget r applied s
       .next (answerPort q.port
         ⟨.ok, ⟨decide (8000 < budget), applied == 0, false, applied == (s.rack r).budget⟩,
           .budget applied (revokedGrants applied (s.rack r).grants).length (grantedSum (t.rack r)) (remaining (t.rack r))
             (t.rack r).waits.length⟩ t)) := by
  refine congrArg Host.Outcome.next (h.serve ?_)
  simp only [inRange_val]

/-- Settles O26: the budget is replaced and the grants cut back to it before the evaluation, which grants only what remains. -/
theorem setRackBudgetFits : Obligations.SetRackBudgetFits := by
  intro q r budget s h
  have honly := applyBudget_arbiterOnly r (min budget 8000) s
  obtain ⟨hbudget, hsum⟩ := applyBudget_within r (min budget 8000) s
  refine ⟨_, _, exec_setRackBudget r budget h, ?_, ?_, fun r' hr => ?_, fun i hi => ?_, honly.answered_frame _ _,
    honly.samePortStates.answered⟩
  · rw [answerPort_rack]; exact hbudget
  · rw [answerPort_rack]; exact hsum
  · rw [answerPort_rack]; exact honly.racks r' hr
  · rw [answerPort_slot]; exact honly.slots i hi

end Sys2Proof.Machine
end

section
/-! PROOFS. The state after reset (12 R206) meets every invariant of the machine. -/

namespace Sys2Proof.Machine

theorem reset_rack (r : RackNo) : State.reset.rack r = resetRack := Table.get_fill ..

theorem reset_channel (c : ChanNo) : State.reset.channel c = freshChannel defaultChannel := Table.get_fill ..

theorem reset_player (p : PlayerNo) : State.reset.player p = idlePlayer := Table.get_fill ..

theorem reset_port (p : PortId) : State.reset.port p = resetPort := by cases p <;> rfl

theorem reset_mix (c : ChanNo) : State.reset.mix.get c = ⟨32768, 16384, 0⟩ := Table.get_fill ..

theorem reset_presence (k : SourceNo) : State.reset.presence.get k = ⟨false, 0, 0⟩ := Table.get_fill ..

theorem reset_links (k : Fin 8) : State.reset.links.get k = ⟨none, 0⟩ := Table.get_fill ..

theorem reset_serves (p : PlayerNo) : State.reset.emergency.serves.get p = none := Table.get_fill ..

theorem reset_assigned (c : ChanNo) : State.reset.emergency.assigned.get c = none := Table.get_fill ..

theorem budgetsHold_reset : budgetsHold State.reset := by
  intro r
  rw [reset_rack]
  decide

theorem tuneQueueHolds_reset : tuneQueueHolds State.reset := ⟨by decide, List.nodup_nil⟩

theorem noticeQueuesHold_reset : noticeQueuesHold State.reset := by
  intro p
  rw [reset_port]
  decide

theorem linksHold_reset : linksHold State.reset := by
  refine ⟨fun k u hu => ?_, fun k => ?_, fun k _ => ?_⟩
  · rw [reset_links] at hu; cases hu
  · rw [reset_links]; decide
  · rw [reset_links]

theorem presenceHolds_reset : presenceHolds State.reset := by
  intro k
  rw [reset_presence]
  decide

theorem samplesHold_reset : samplesHold State.reset := by
  have hzero : ∀ c, (Table.fill 0 : Table Int 12).get c = 0 := Table.get_fill 0
  have hsample : isSample 0 := ⟨by decide, by decide⟩
  exact fun c => ⟨(hzero c).symm ▸ hsample, (hzero c).symm ▸ hsample⟩

theorem gainsHold_reset : gainsHold State.reset := by
  intro c
  rw [reset_channel, reset_mix]
  decide

/-- No player has a read, and the read path serves none. -/
theorem buffersHold_reset : buffersHold State.reset := by
  intro p
  rw [reset_player]
  exact ⟨by decide, by decide, nofun, nofun⟩

theorem settingsHold_reset : settingsHold State.reset := ⟨by decide, by decide⟩

theorem siteCodeHolds_reset : siteCodeHolds State.reset := ⟨by decide, by decide⟩

theorem holdLinked_reset : holdLinked State.reset := by
  intro c p hp
  rw [reset_channel] at hp
  cases hp

theorem emergencyLinked_reset : emergencyLinked State.reset := by
  refine ⟨fun p l hl => ?_, fun c p hp => ?_, fun p o ho => ?_⟩
  · rw [reset_serves] at hl; cases hl
  · rw [reset_assigned] at hp; cases hp
  · rw [reset_player] at ho; cases ho

theorem emergencyTakesAll_reset : emergencyTakesAll State.reset := by
  refine (if_neg (by decide)).mpr ⟨fun c => ?_, fun p => ?_⟩
  · rw [reset_channel]; decide
  · rw [reset_player]; decide

theorem poolHolds_reset : poolHolds State.reset := ⟨holdLinked_reset, emergencyLinked_reset, emergencyTakesAll_reset⟩

/-- Settles O2: every table after reset holds one record throughout, so each invariant is a fact about that record. -/
theorem resetMeetsInvariants : Obligations.ResetMeetsInvariants :=
  ⟨wf_reset, budgetsHold_reset, tuneQueueHolds_reset, noticeQueuesHold_reset, linksHold_reset, presenceHolds_reset,
    samplesHold_reset, gainsHold_reset, buffersHold_reset, settingsHold_reset, siteCodeHolds_reset, poolHolds_reset⟩

end Sys2Proof.Machine
end

section
/-! PROOFS. What leaves the racks' records alone: the roster, the pool and the plan, emergency control and the store. -/

namespace Sys2Proof.Machine

/-- A fold of steps that each leave the racks leaves them. -/
theorem foldl_racks {α : Type} {f : State → α → State} (h : ∀ s a, (f s a).racks = s.racks) (l : List α) (s : State) :
    (l.foldl f s).racks = s.racks :=
  List.foldlRecOn (motive := fun t : State => t.racks = s.racks) l f rfl fun t ht a _ => (h t a).trans ht

/-! ## Emergency control keeps the frame of the pool and the plan (10) -/

theorem endPlays_frame (ps : List PlayerNo) (s : State) : PlanFrame s (endPlays ps s) :=
  PlanFrame.foldl (fun t p => endPlay p .completed t) (fun t p => endPlay_frame p .completed t) ps s

theorem setServes_frame (p : PlayerNo) (v : Option Lang) (s : State) : PlanFrame s (setServes p v s) := by
  constructor <;> rfl

theorem setRaised_frame (v : Option Raised) (s : State) : PlanFrame s (setRaised v s) := by
  constructor <;> rfl

theorem servePlayer_frame (p : PlayerNo) (l : Lang) (clip : Nat) (s : State) : PlanFrame s (servePlayer p l clip s) :=
  (allocate_frame ..).trans (setServes_frame ..)

theorem serveDefault_frame (s : State) : PlanFrame s (serveDefault s) := by
  unfold serveDefault
  split
  · split
    · exact allocate_frame ..
    · exact PlanFrame.refl s
  · exact PlanFrame.refl s

theorem serveLanguage_frame (l : Lang) (s : State) : PlanFrame s (serveLanguage l s) := by
  unfold serveLanguage
  split
  · exact servePlayer_frame ..
  · exact PlanFrame.refl s

theorem servePlayers_frame (s : State) : PlanFrame s (servePlayers s) :=
  (serveDefault_frame s).trans (PlanFrame.foldl (fun t l => serveLanguage l t) (fun t l => serveLanguage_frame l t) _ _)

/-- A player cleared where a test holds. -/
theorem clearIf_frame (b : Bool) (p : PlayerNo) (s : State) : PlanFrame s (if b = true then clearPlayer p s else s) := by
  cases b
  · exact PlanFrame.refl s
  · exact clearPlayer_frame p s

theorem stopPlayers_frame (s : State) : PlanFrame s (stopPlayers s) :=
  PlanFrame.foldl _ (fun t p => clearIf_frame (isBusy (t.player p)) p t) (every 6) s

theorem raiseChannels_frame (cause : RaiseCause) (s : State) : PlanFrame s (raiseChannels cause s) :=
  ((setRaised_frame _ s).trans (stopPlayers_frame _)).trans ((servePlayers_frame _).trans (decideAll_frame _))

theorem raise_frame (cause : RaiseCause) (s : State) : PlanFrame s (raise cause s) :=
  ((raiseChannels_frame cause s).trans (queueNotice_frame ..)).trans
    (PlanFrame.foldl (fun t x => reportPreempted x t) (fun _ _ => queueNotice_frame ..) _ _)

theorem raiseByInput_frame (s : State) : PlanFrame s (raiseByInput s) := by
  unfold raiseByInput
  split
  · exact raise_frame _ s
  · exact PlanFrame.refl s

theorem moveChannels_frame (p : PlayerNo) (test : State → ChanNo → Bool) (s : State) : PlanFrame s (moveChannels p test s) :=
  PlanFrame.foldl _ (fun t c => (unassignEmergency_frame c t).trans (assignTo_frame c (some p) _)) _ s

theorem emergencySeal_frame (clip : Clip) (s : State) : PlanFrame s (emergencySeal clip s) := by
  unfold emergencySeal
  split
  · split
    · exact (allocate_frame ..).trans (moveChannels_frame ..)
    · split
      · split
        · exact (servePlayer_frame ..).trans (moveChannels_frame ..)
        · exact PlanFrame.refl s
      · exact PlanFrame.refl s
  · exact PlanFrame.refl s

/-- No player serves a language or a channel (10 R182 step 3). -/
def serveNone (s : State) : State :=
  { s with emergency := { s.emergency with serves := Table.fill none, assigned := Table.fill none } }

theorem serveNone_frame (s : State) : PlanFrame s (serveNone s) := by
  constructor <;> rfl

theorem freePlayers_eq (s : State) : freePlayers s =
    serveNone ((every 6).foldl (fun t p => if ownedBy .emergency (t.player p) then clearPlayer p t else t) s) := rfl

theorem freePlayers_frame (s : State) : PlanFrame s (freePlayers s) := by
  rw [freePlayers_eq]
  exact (PlanFrame.foldl _ (fun t p => clearIf_frame (ownedBy .emergency (t.player p)) p t) (every 6) s).trans (serveNone_frame _)

theorem clear_frame (r : Raised) (s : State) : PlanFrame s (clear r s) :=
  ((setRaised_frame none s).trans (queueNotice_frame ..)).trans ((freePlayers_frame _).trans (decideAll_frame _))

theorem reassignChannel_frame (c : ChanNo) (before : ChannelState) (s : State) : PlanFrame s (reassignChannel c before s) := by
  unfold reassignChannel
  split
  · exact (unassignEmergency_frame c s).trans (assignEmergency_frame c _)
  · exact PlanFrame.refl s

theorem setChannelTo_frame (c : ChanNo) (f : ChannelConfig) (s : State) : PlanFrame s (setChannelTo c f s) :=
  (((updChannel_frame c _ s).trans (updMix_frame c _ _)).trans (decideChannel_frame c _)).trans
    ((reholdChannel_frame c _ _).trans (reassignChannel_frame c _ _))

theorem announce_frame (p : PlayerNo) (taken : Bool) (clip loops : Nat) (cs : List ChanNo) (s : State) :
    PlanFrame s (announce p taken clip loops cs s) := by
  unfold announce
  split
  · exact (clearPlayer_frame p s).trans (allocate_frame ..)
  · exact allocate_frame ..

/-! ## The racks under the pool and the plan -/

@[simp] theorem queueNotice_racks (k : NoticeKind) (j : Subject) (d : Detail) (s : State) : (queueNotice k j d s).racks = s.racks :=
  (queueNotice_frame k j d s).racks

@[simp] theorem meetReads_racks (s : State) : (meetReads s).racks = s.racks := (meetReads_frame s).racks

@[simp] theorem placeRead_racks (p : PlayerNo) (s : State) : (placeRead p s).racks = s.racks := (placeRead_frame p s).racks

@[simp] theorem offer_racks (s : State) : (offer s).racks = s.racks := (offer_frame s).racks

@[simp] theorem endPlay_racks (p : PlayerNo) (e : PlayEnd) (s : State) : (endPlay p e s).racks = s.racks := (endPlay_frame p e s).racks

@[simp] theorem endPlays_racks (ps : List PlayerNo) (s : State) : (endPlays ps s).racks = s.racks := (endPlays_frame ps s).racks

@[simp] theorem decideEach_racks (cs : List ChanNo) (s : State) : (decideEach cs s).racks = s.racks := (decideEach_frame cs s).racks

@[simp] theorem decideAll_racks (s : State) : (decideAll s).racks = s.racks := (decideAll_frame s).racks

@[simp] theorem bindChannel_racks (c : ChanNo) (g : GroupNo) (s : State) : (bindChannel c g s).racks = s.racks :=
  (bindChannel_frame c g s).racks

@[simp] theorem unbindChannel_racks (c : ChanNo) (s : State) : (unbindChannel c s).racks = s.racks := (unbindChannel_frame c s).racks

@[simp] theorem setChannelTo_racks (c : ChanNo) (f : ChannelConfig) (s : State) : (setChannelTo c f s).racks = s.racks :=
  (setChannelTo_frame c f s).racks

@[simp] theorem announce_racks (p : PlayerNo) (taken : Bool) (clip loops : Nat) (cs : List ChanNo) (s : State) :
    (announce p taken clip loops cs s).racks = s.racks := (announce_frame ..).racks

@[simp] theorem raise_racks (cause : RaiseCause) (s : State) : (raise cause s).racks = s.racks := (raise_frame cause s).racks

@[simp] theorem raiseByInput_racks (s : State) : (raiseByInput s).racks = s.racks := (raiseByInput_frame s).racks

@[simp] theorem emergencySeal_racks (clip : Clip) (s : State) : (emergencySeal clip s).racks = s.racks :=
  (emergencySeal_frame clip s).racks

@[simp] theorem clear_racks (r : Raised) (s : State) : (clear r s).racks = s.racks := (clear_frame r s).racks

/-! ## The racks under the roster (01, 04, 05) -/

@[simp] theorem readyRemoveOccupant_racks (o : Occupant) (s : State) : (readyRemoveOccupant o s).racks = s.racks := by
  cases o <;> rfl

@[simp] theorem judgeUnit_racks (u : UnitNo) (s : State) : (judgeUnit u s).racks = s.racks := by
  obtain h | ⟨i, h⟩ | ⟨i, h⟩ := judgeUnit_cases u s <;> rw [h] <;> rfl

@[simp] theorem enrol_racks (u : UnitNo) (kind : UnitKind) (serial : BitVec 32) (marks : Byte) (cycles : Nat) (s : State) :
    (enrol u kind serial marks cycles s).racks = s.racks := by
  unfold enrol
  dsimp only
  split
  · simp [placeNew]
  · rfl

@[simp] theorem applyReports_racks (rs : List UnitReport) (s : State) : (applyReports rs s).2.racks = s.racks :=
  (congrArg State.racks (applyReports_telemetryKept rs s).frame :)

@[simp] theorem enqueueOrder_racks (u : UnitNo) (air : Nat) (s : State) : (enqueueOrder u air s).racks = s.racks :=
  (enqueueOrder_leaseKept u air s).racks

@[simp] theorem queueEmpty_racks (n : PendingEmpty) (s : State) : (queueEmpty n s).racks = s.racks := (queueEmpty_leaseKept n s).racks

@[simp] theorem endGroup_racks (g : GroupNo) (s : State) : (endGroup g s).1.racks = s.racks := (endGroup_leaseKept g s).racks

@[simp] theorem clearLease_racks (u : UnitNo) (s : State) : (clearLease u s).racks = s.racks := by
  obtain ⟨groups, h⟩ := clearLease_eq u s
  rw [h]
  rfl

@[simp] theorem closeLease_racks (u : UnitNo) (s : State) : (closeLease u s).1.racks = s.racks :=
  (closeLease_leaseKept u s).racks.trans (clearLease_racks u s)

@[simp] theorem judgeDeadline_racks (u : UnitNo) (s : State) : (judgeDeadline u s).racks = s.racks := by
  unfold judgeDeadline
  dsimp only
  split
  · simp
  · rfl

@[simp] theorem judgeDeadlines_racks (s : State) : (judgeDeadlines s).racks = s.racks :=
  foldl_racks (fun t u => judgeDeadline_racks u t) _ s

@[simp] theorem forcedRemoval_racks (u : UnitNo) (i : SlotIx) (was : SlotState) (s : State) :
    (forcedRemoval u i was s).racks = s.racks := queueNotice_racks _ _ _ _

@[simp] theorem releaseSlot_racks (u : UnitNo) (s : State) : (releaseSlot u s).racks = s.racks := by
  unfold releaseSlot
  split <;> rfl

@[simp] theorem addMember_racks (g : Option GroupNo) (s : State) : (addMember g s).racks = s.racks := by
  cases g <;> rfl

@[simp] theorem judgeReadyLow_racks (u : UnitNo) (s : State) : (judgeReadyLow u s).racks = s.racks := by
  unfold judgeReadyLow
  dsimp only
  split
  · simp
  · rfl

@[simp] theorem issueHead_racks (g : Option GroupNo) (c : ChanNo) (s : State) : (issueHead g c s).1.racks = s.racks := by
  unfold issueHead
  split
  · rfl
  · simp [done, issueTo]

@[simp] theorem openAs_racks (g : GroupNo) (u : UnitNo) (c : ChanNo) (s : State) : (openAs g u c s).racks = s.racks := by
  simp [openAs]

@[simp] theorem countOrder_racks (u : UnitNo) (air : Nat) (t : FateCounts × State) : (countOrder u air t).2.racks = t.2.racks :=
  enqueueOrder_racks u air t.2

@[simp] theorem moveMember_racks (g : GroupNo) (c : ChanNo) (air : Nat) (t : FateCounts × State) (u : UnitNo) :
    (moveMember g c air t u).2.racks = t.2.racks := by
  unfold moveMember
  split
  · simp
  · rfl

@[simp] theorem moveMic_racks (mic : Option UnitNo) (air : Nat) (t : FateCounts × State) : (moveMic mic air t).2.racks = t.2.racks := by
  cases mic
  · rfl
  · exact countOrder_racks _ _ _

theorem foldl_moveMember_racks (g : GroupNo) (c : ChanNo) (air : Nat) (us : List UnitNo) (t : FateCounts × State) :
    (us.foldl (moveMember g c air) t).2.racks = t.2.racks :=
  List.foldlRecOn (motive := fun x : FateCounts × State => x.2.racks = t.2.racks) us _ rfl
    fun x hx u _ => (moveMember_racks g c air x u).trans hx

@[simp] theorem moveTo_racks (g : GroupNo) (old new : ChanNo) (s : State) : (moveTo g old new s).2.racks = s.racks := by
  simp only [moveTo, foldl_moveMember_racks, moveMic_racks, rebind, bindChannel_racks, unbindChannel_racks, State.updGroup_racks]

@[simp] theorem restartMap_racks (restart : Bool) (s : State) : (restartMap restart s).racks = s.racks := by
  cases restart <;> rfl

@[simp] theorem reportLostGuide_racks (before : State) (g : GroupNo) (s : State) : (reportLostGuide before g s).racks = s.racks := by
  unfold reportLostGuide
  dsimp only
  split
  · simp
  · rfl

@[simp] theorem takeLinks_racks (rs : List LinkReport) (s : State) : (takeLinks rs s).racks = s.racks := by
  simp only [takeLinks, decideEach_racks]
  exact foldl_racks (fun t g => reportLostGuide_racks s g t) _ _

/-! ## The racks under a frame (07, 09) -/

@[simp] theorem takePresence_racks (codes : Table Half 16) (s : State) : (takePresence codes s).racks = s.racks := by
  simp [takePresence]

@[simp] theorem giveSample_racks (p : PlayerNo) (s : State) : (giveSample p s).racks = s.racks := by
  unfold giveSample
  dsimp only
  split
  · split
    · simp
    · rw [placeRead_racks]
      split <;> simp
  · rfl

@[simp] theorem giveSamples_racks (s : State) : (giveSamples s).racks = s.racks := foldl_racks (fun t p => giveSample_racks p t) _ s

@[simp] theorem mixFrame_racks (codes : Table Half 16) (s : State) : (mixFrame codes s).racks = s.racks := by
  simp [mixFrame, compute]

@[simp] theorem endWindowFor_racks (c : ChanNo) (s : State) : (endWindowFor c s).racks = s.racks := by
  unfold endWindowFor
  dsimp only
  split <;> simp

@[simp] theorem takeWindowEnd_racks (s : State) : (takeWindowEnd s).racks = s.racks := by
  simp only [takeWindowEnd]
  exact foldl_racks (fun t c => endWindowFor_racks c t) (every 12) s

/-! ## The racks under the store (08) -/

@[simp] theorem setBlock_racks (b : BlockNo) (st : BlockState) (s : State) : (setBlock b st s).racks = s.racks := by
  unfold setBlock
  split <;> rfl

@[simp] theorem storeFault_racks (cause clip : Nat) (b : BlockNo) (s : State) : (storeFault cause clip b s).racks = s.racks :=
  queueNotice_racks _ _ _ _

@[simp] theorem failBlocks_racks (clip : Nat) (bs : List BlockNo) (s : State) : (failBlocks clip bs s).racks = s.racks :=
  foldl_racks (fun t b => (storeFault_racks 0 clip b _).trans (setBlock_racks b .dirty t)) bs s

@[simp] theorem endBatch_racks (outcome : SaveOutcome) (s : State) : (endBatch outcome s).racks = s.racks := by
  unfold endBatch
  dsimp only
  split
  · split
    · rfl
    · exact queueNotice_racks _ _ _ _
  · rfl

@[simp] theorem countErase_racks (f : EraseTally → EraseTally) (s : State) : (countErase f s).racks = s.racks := rfl

@[simp] theorem leaveBatch_racks (b : BlockNo) (s : State) : (leaveBatch b s).racks = s.racks := rfl

@[simp] theorem leaveClip_racks (b : BlockNo) (s : State) : (leaveClip b s).racks = s.racks := rfl

@[simp] theorem stopErase_racks (s : State) : (stopErase s).racks = s.racks := by
  unfold stopErase
  split <;> rfl

@[simp] theorem appendTo_racks (q : Req) (c : Clip) (last : BlockNo) (codes : List Byte) (s : State) :
    (appendTo q c last codes s).1.racks = s.racks := by
  unfold appendTo
  split
  · rfl
  · split
    · rfl
    · split <;> rfl

@[simp] theorem applyJob_racks (good : Bool) (job : ProgramJob) (s : State) : (applyJob good job s).racks = s.racks := by
  unfold applyJob
  split
  · exact setBlock_racks _ .written s
  · dsimp only
    split
    · exact setBlock_racks _ .written _
    · rfl
  all_goals rfl

@[simp] theorem tellSealed_racks (good : Bool) (job : ProgramJob) (s : State) : (tellSealed good job s).racks = s.racks := by
  unfold tellSealed
  split
  · split
    · simp
    · rfl
  · rfl

@[simp] theorem answerPort_racks (p : PortId) (a : Answer) (s : State) : (answerPort p a s).racks = s.racks := by
  simp [answerPort]

@[simp] theorem keepWaiting_racks (p : PortId) (s : State) : (keepWaiting p s).racks = s.racks := by
  simp [keepWaiting]

@[simp] theorem answerJob_racks (port : Option PortId) (a : Answer) (s : State) : (answerJob port a s).racks = s.racks := by
  cases port
  · rfl
  · exact answerPort_racks _ _ _

@[simp] theorem leaveProgramming_racks (s : State) : (leaveProgramming s).racks = s.racks := by
  unfold leaveProgramming
  dsimp only
  split <;> rfl

@[simp] theorem endProgram_racks (op : ProgramOp) (faults : List (Nat × Byte)) (s : State) :
    (endProgram op faults s).racks = s.racks := by
  simp [endProgram]

@[simp] theorem joinBatch_racks (b : BlockNo) (s : State) : (joinBatch b s).racks = s.racks := by
  unfold joinBatch
  split
  · split <;> rfl
  · rfl

@[simp] theorem meetWaiters_racks (s : State) : (meetWaiters s).racks = s.racks := by
  unfold meetWaiters
  split
  · rfl
  · exact meetReads_racks s

@[simp] theorem endMarks_racks (faults : List (Nat × Byte)) (s : State) : (endMarks faults s).racks = s.racks := by
  simp only [endMarks, meetWaiters_racks, State.updStore_racks]
  have hmarks : ∀ (batch : List BatchEntry) (t : State), (batch.foldl (fun t e => setBlock e.block .dirty t) t).racks = t.racks :=
    foldl_racks fun t e => setBlock_racks e.block .dirty t
  have hfails : ∀ (bs : List BlockNo) (t : State), (bs.foldl (fun t b => failMark b t) t).racks = t.racks :=
    foldl_racks fun t b => storeFault_racks 0 (staleHolder t b) b t
  rw [hfails, hmarks]

@[simp] theorem judgeErase_racks (good : Bool) (b : BlockNo) (s : State) : (judgeErase good b s).racks = s.racks := by
  cases good <;> simp [judgeErase]

@[simp] theorem endErase_racks (b : BlockNo) (left : List (Nat × Byte)) (s : State) : (endErase b left s).racks = s.racks := by
  unfold endErase
  dsimp only
  split
  · rfl
  · simp [nextBlock]

@[simp] theorem completeSuspension_racks (s : State) : (completeSuspension s).racks = s.racks := by
  unfold completeSuspension
  dsimp only
  split <;> simp

@[simp] theorem leaveMark_racks (b : BlockNo) (s : State) : (leaveMark b s).racks = s.racks := by
  unfold leaveMark
  split
  · exact setBlock_racks b .dirty _
  · rfl

@[simp] theorem dropEntries_racks (g : Fin 16) (s : State) : (dropEntries g s).racks = s.racks := by
  have hfold : ((s.store.batch.filter (isDropped g)).foldl (fun t e => leaveMark e.block t) s).racks = s.racks :=
    foldl_racks (fun t (e : BatchEntry) => leaveMark_racks e.block t) _ s
  simp only [dropEntries, State.updStore_racks]
  split <;> exact hfold

@[simp] theorem dropInHand_racks (s : State) : (dropInHand s).racks = s.racks := by
  unfold dropInHand
  dsimp only
  split
  · rfl
  · split
    · rfl
    · rw [State.updStore_racks]
      split <;> simp

@[simp] theorem spoilDropped_racks (s : State) : (spoilDropped s).racks = s.racks := by
  unfold spoilDropped
  split <;> rfl

@[simp] theorem dropUnkeyed_racks (g : Fin 16) (s : State) : (dropUnkeyed g s).racks = s.racks := by
  unfold dropUnkeyed
  split
  · simp
  · rfl

@[simp] theorem serveRead_racks (q : Fin 7) (s : State) : (serveRead q s).racks = s.racks := by
  unfold serveRead
  dsimp only
  split <;> rfl

@[simp] theorem serveRefill_racks (p : PlayerNo) (s : State) : (serveRefill p s).racks = s.racks := by
  simp [serveRefill, freePath]

end Sys2Proof.Machine
end

section
/-! PROOFS. The rack controller (02) and the budgets: its operations work on the grants through the arbiter's alone. -/

namespace Sys2Proof.Machine

/-! ## What leaves the racks' records alone (02, 04) -/

@[simp] theorem writeCharge_racks (o : Occupant) (c : Nat) (s : State) : (writeCharge o c s).racks = s.racks := by
  cases o <;> rfl

@[simp] theorem setCharge_racks (i : SlotIx) (c : Nat) (s : State) : (setCharge i c s).racks = s.racks := by
  simp [setCharge]

@[simp] theorem setBatteryFault_racks (o : Occupant) (b : Bool) (s : State) : (setBatteryFault o b s).racks = s.racks := by
  cases o <;> rfl

@[simp] theorem countCycle_racks (o : Occupant) (s : State) : (countCycle o s).racks = s.racks := by
  cases o <;> rfl

@[simp] theorem countReading_racks (i : SlotIx) (rd : Reading) (s : State) : (countReading i rd s).racks = s.racks := by
  unfold countReading
  dsimp only
  split
  · simp
  · rfl

@[simp] theorem settleCharged_racks (i : SlotIx) (s : State) : (settleCharged i s).racks = s.racks := by
  unfold settleCharged
  split
  · split <;> rfl
  · rfl

@[simp] theorem displace_racks (j : SlotIx) (u : UnitNo) (s : State) : (displace j u s).racks = s.racks := by
  unfold displace
  dsimp only
  split <;> rfl

@[simp] theorem standIn_racks (u : UnitNo) (i : SlotIx) (s : State) : (standIn u i s).racks = s.racks := rfl

@[simp] theorem returnUnit_racks (u : UnitNo) (i : SlotIx) (s : State) : (returnUnit u i s).racks = s.racks := by
  simp [returnUnit]

@[simp] theorem looseArrival_racks (u : UnitNo) (i : SlotIx) (s : State) : (looseArrival u i s).racks = s.racks := by
  simp [looseArrival]

@[simp] theorem conflictArrival_racks (u : UnitNo) (i j : SlotIx) (s : State) : (conflictArrival u i j s).racks = s.racks := by
  simp only [conflictArrival, queueEmpty_racks, queueNotice_racks, standIn_racks]
  split <;> simp

@[simp] theorem arrival_racks (u : UnitNo) (i : SlotIx) (s : State) : (arrival u i s).racks = s.racks := by
  unfold arrival
  dsimp only
  split
  · exact returnUnit_racks _ _ _
  · exact looseArrival_racks _ _ _
  all_goals
    split
    · split
      · rfl
      · exact conflictArrival_racks _ _ _ _
    · exact looseArrival_racks _ _ _

@[simp] theorem reportStranger_racks (i : SlotIx) (o : Occupant) (s : State) : (reportStranger i o s).racks = s.racks := by
  unfold reportStranger
  dsimp only
  split
  · split <;> simp
  · rfl

@[simp] theorem settlePrevious_racks (prev now : Occupant) (s : State) : (settlePrevious prev now s).racks = s.racks := by
  unfold settlePrevious
  split
  · split <;> rfl
  · rfl

@[simp] theorem handArrival_racks (i : SlotIx) (prev now : Occupant) (s : State) : (handArrival i prev now s).racks = s.racks := by
  unfold handArrival
  split
  · split
    · rfl
    · exact arrival_racks _ _ _
  · rfl

@[simp] theorem handRemoval_racks (i : SlotIx) (sl : Slot) (mic : Bool) (s : State) : (handRemoval i sl mic s).racks = s.racks := by
  unfold handRemoval
  split
  · split <;> rfl
  · rfl
  · rfl
  · split
    · rfl
    · exact forcedRemoval_racks _ _ _ _
  · exact forcedRemoval_racks _ _ _ _
  · rfl

/-- The end of a latch window leaves the racks when what is done at the slot does. -/
theorem endWindow_racks (u : UnitNo) (i : SlotIx) (cause : Nat) {atSlot : State → State} (h : ∀ t, (atSlot t).racks = t.racks)
    (s : State) : (endWindow u i cause atSlot s).racks = s.racks := by
  simp [endWindow, h]

@[simp] theorem relatch_racks (u : UnitNo) (i : SlotIx) (s : State) : (relatch u i s).racks = s.racks :=
  (relatch_relatched u i s).racks

@[simp] theorem expireWindow_racks (i : SlotIx) (s : State) : (expireWindow i s).racks = s.racks := by
  unfold expireWindow
  split
  · exact endWindow_racks _ i 0 (relatch_racks _ i) s
  · rfl

@[simp] theorem loseSlot_racks (i : SlotIx) (s : State) : (loseSlot i s).racks = s.racks := by
  unfold loseSlot
  dsimp only
  split
  · exact readyRemoveOccupant_racks _ s
  · exact endWindow_racks _ i 1 (fun t => State.updSlot_racks t i lostSlot) s
  · rfl

@[simp] theorem returnSlot_racks (i : SlotIx) (rd : Reading) (s : State) : (returnSlot i rd s).racks = s.racks := by
  unfold returnSlot
  dsimp only
  split
  · rfl
  · split <;> rfl

@[simp] theorem notePoll_racks (r : RackNo) (answered : Bool) (s : State) : (notePoll r answered s).racks = s.racks := by
  unfold notePoll
  split <;> rfl

@[simp] theorem restartFault_racks (i : SlotIx) (s : State) : (restartFault i s).racks = s.racks := by
  simp [restartFault]

/-! ## What keeps the budgets (03) -/

theorem budgetsHold_of_racks {s t : State} (h : t.racks = s.racks) (hs : budgetsHold s) : budgetsHold t := by
  simp only [budgetsHold, State.rack, h]
  exact hs

/-- Work on one rack keeps the budgets when that rack stays within its own. -/
theorem ArbiterOnly.budgetsHold {r : RackNo} {budget : Nat} {s t : State} (h : ArbiterOnly r s t) (hs : budgetsHold s)
    (hr : Within budget (t.rack r)) (hmax : budget ≤ 8000) : budgetsHold t := by
  intro r'
  by_cases he : r' = r
  · subst he
    obtain ⟨hbudget, hsum⟩ := hr
    rw [hbudget]
    exact ⟨hsum, hmax⟩
  · rw [h.racks r' he]
    exact hs r'

theorem evaluate_budgetsHold (r : RackNo) {s : State} (h : budgetsHold s) : budgetsHold (evaluate r s) :=
  (evaluate_arbiterOnly r s).budgetsHold h (evaluate_within ⟨rfl, (h r).1⟩) (h r).2

theorem applyBudget_budgetsHold (r : RackNo) {budget : Nat} (hmax : budget ≤ 8000) {s : State} (h : budgetsHold s) :
    budgetsHold (applyBudget r budget s) :=
  (applyBudget_arbiterOnly r budget s).budgetsHold h (applyBudget_within r budget s) hmax

/-- A write that keeps a rack's budget and does not raise its granted sum. -/
theorem updRack_budgetsHold (r : RackNo) {f : Rack → Rack} {s : State} (h : budgetsHold s)
    (hbudget : (f (s.rack r)).budget = (s.rack r).budget) (hsum : grantedSum (f (s.rack r)) ≤ grantedSum (s.rack r)) :
    budgetsHold (s.updRack r f) := by
  refine (updRack_arbiterOnly r f s).budgetsHold h ?_ (h r).2
  rw [State.updRack_rack_self]
  exact ⟨hbudget, Nat.le_trans hsum (h r).1⟩

theorem giveBack_budgetsHold (i : SlotIx) {s : State} (h : budgetsHold s) : budgetsHold (giveBack i s) :=
  budgetsHold_of_racks (State.updSlot_racks ..) (updRack_budgetsHold (rackOf i) h rfl (sumGrants_filter _ _))

theorem leaveArbiter_budgetsHold (i : SlotIx) {s : State} (h : budgetsHold s) : budgetsHold (leaveArbiter i s) := by
  unfold leaveArbiter
  split
  · exact evaluate_budgetsHold _ (giveBack_budgetsHold i h)
  · exact h

theorem joinWait_budgetsHold (i : SlotIx) (ph : Phase) {s : State} (h : budgetsHold s) : budgetsHold (joinWait i ph s) := by
  refine evaluate_budgetsHold _ (updRack_budgetsHold _ ?_ rfl (Nat.le_refl _))
  exact budgetsHold_of_racks (changeSlot_racks ..) (giveBack_budgetsHold i h)

theorem sumGrants_reduceGrants (s : State) (k : SlotNo) (gs : List Grant) : sumGrants (reduceGrants s k gs) ≤ sumGrants gs := by
  induction gs with
  | nil => exact Nat.le_refl _
  | cons g rest ih =>
    have hg : (if g.slot = k then { g with current := reducedGrant s g.current } else g).current ≤ g.current := by
      split
      · exact Nat.min_le_left _ _
      · exact Nat.le_refl _
    rw [sumGrants_cons]
    exact Nat.le_trans (Nat.le_of_eq (sumGrants_cons _ _)) (Nat.add_le_add hg ih)

theorem enterTopoff_budgetsHold (i : SlotIx) {s : State} (h : budgetsHold s) : budgetsHold (enterTopoff i s) := by
  have hreduced : budgetsHold (s.updRack (rackOf i) fun a => { a with grants := reduceGrants s (placeOf i) a.grants }) :=
    updRack_budgetsHold _ h rfl (sumGrants_reduceGrants _ _ _)
  unfold enterTopoff
  dsimp only
  split
  · exact evaluate_budgetsHold _ (budgetsHold_of_racks (changeSlot_racks ..) hreduced)
  · exact budgetsHold_of_racks (changeSlot_racks ..) hreduced

/-! ## Identification and readings (02 R24, R31 to R45) -/

theorem completeIdentify_budgetsHold (i : SlotIx) (serial : BitVec 32) {s : State} (h : budgetsHold s) :
    budgetsHold (completeIdentify i serial s) :=
  joinWait_budgetsHold i _ (budgetsHold_of_racks (by simp) h)

theorem enterFault_budgetsHold (i : SlotIx) (cause : Monitors) {s : State} (h : budgetsHold s) :
    budgetsHold (enterFault i cause s) := by
  refine budgetsHold_of_racks ?_ (leaveArbiter_budgetsHold i h)
  simp only [enterFault, queueNotice_racks, changeSlot_racks, setBatteryFault_racks]
  split <;> simp

theorem endTopoff_budgetsHold (i : SlotIx) {s : State} (h : budgetsHold s) : budgetsHold (endTopoff i s) := by
  refine budgetsHold_of_racks (settleCharged_racks _ _) (leaveArbiter_budgetsHold i (budgetsHold_of_racks ?_ h))
  split <;> simp

theorem changePhase_budgetsHold (i : SlotIx) (rd : Reading) {s : State} (h : budgetsHold s) : budgetsHold (changePhase i rd s) := by
  unfold changePhase
  dsimp only
  split
  · split
    · exact joinWait_budgetsHold i _ h
    · exact h
  · split
    · exact enterTopoff_budgetsHold i h
    · exact h
  · split
    · exact endTopoff_budgetsHold i h
    · exact h
  · split
    · exact endTopoff_budgetsHold i h
    · exact h
  · exact h

theorem monitoredReading_budgetsHold (i : SlotIx) (rd : Reading) {s : State} (h : budgetsHold s) :
    budgetsHold (monitoredReading i rd s) := by
  unfold monitoredReading
  dsimp only
  split
  · exact enterFault_budgetsHold i _ h
  · exact changePhase_budgetsHold i rd (budgetsHold_of_racks (by simp) h)

theorem removal_budgetsHold (i : SlotIx) {s : State} (h : budgetsHold s) : budgetsHold (removal i s) := by
  refine budgetsHold_of_racks ?_ (leaveArbiter_budgetsHold i h)
  simp only [removal, handRemoval_racks, changeSlot_racks]
  split <;> simp

theorem takeReading_budgetsHold (i : SlotIx) (rd : Reading) {s : State} (h : budgetsHold s) : budgetsHold (takeReading i rd s) := by
  unfold takeReading
  dsimp only
  split
  · split
    · exact h
    · exact h
    · exact h
    · exact h
    · exact h
    · exact monitoredReading_budgetsHold i rd h
  · split
    · exact h
    · exact h
    · exact removal_budgetsHold i h

/-! ## Racks lost and returned, and new charge settings (02 R26, R27, R47) -/

theorem loseRack_budgetsHold (r : RackNo) {s : State} (h : budgetsHold s) : budgetsHold (loseRack r s) :=
  budgetsHold_of_racks (foldl_racks (fun t i => loseSlot_racks i t) (slotsOf r) _) (updRack_budgetsHold r h rfl (Nat.zero_le _))

theorem returnRack_budgetsHold (r : RackNo) (rds : Table Reading 16) {s : State} (h : budgetsHold s) :
    budgetsHold (returnRack r rds s) :=
  budgetsHold_of_racks (foldl_racks (fun t k => returnSlot_racks (slotIx r k) (rds.get k) t) (every 16) _)
    (updRack_budgetsHold r h rfl (Nat.le_refl _))

/-- Every rack evaluated in turn. -/
theorem foldl_evaluate_budgetsHold (rs : List RackNo) {s : State} (h : budgetsHold s) :
    budgetsHold (rs.foldl (fun t r => evaluate r t) s) :=
  List.foldlRecOn rs _ h fun _ ht r _ => evaluate_budgetsHold r ht

theorem applyCharge_budgetsHold (c : ChargeSettings) {s : State} (h : budgetsHold s) : budgetsHold (applyCharge c s) := by
  have hwritten : budgetsHold { s with charge := c } := h
  have hevaluated := iteInduction (motive := budgetsHold) (c := currentsDiffer c s.charge = true)
    (fun _ => foldl_evaluate_budgetsHold (every 4) hwritten) fun _ => hwritten
  unfold applyCharge
  dsimp only
  split
  · exact hevaluated
  · exact budgetsHold_of_racks (foldl_racks (fun t u => judgeUnit_racks u t) (every 256) _) hevaluated

/-! ## Resets (12 R205) -/

/-- After a reset no rack holds a grant, and a budget the record gives is at most 8000 mA. -/
theorem boot_budgetsHold (kind : ResetKind) (straps : Straps) (s : State) : budgetsHold (boot kind straps s) := by
  intro r
  have hloaded := boot_loadedBlocks kind straps s
  have hsum : grantedSum ((boot kind straps s).rack r) = 0 := by
    rw [hloaded.racks r]
    rfl
  have hmax : ((boot kind straps s).rack r).budget ≤ 8000 := by
    have hconf := hloaded.configured
    unfold Configured at hconf
    split at hconf
    · obtain ⟨-, -, -, -, -, -, hbudget, -⟩ := hconf
      rw [hbudget r]
      exact Nat.min_le_left _ _
    · obtain ⟨-, -, -, -, -, -, hbudget, -⟩ := hconf
      rw [hbudget r]
      decide
  exact ⟨hsum ▸ Nat.zero_le _, hmax⟩

end Sys2Proof.Machine
end

section
/-! PROOFS. Every command keeps the budgets (03 R49): all but those of the rack link, Set Rack Budget, Set Charge Settings and the resets leave
the racks' records alone. -/

namespace Sys2Proof.Machine

/-! ## Outcomes -/

/-- A command goes on to a next state, with every rack's record as before. -/
def LeavesRacks (s : State) (o : Host.Outcome State Fault Refusal) : Prop := ∃ t, o = .next t ∧ t.racks = s.racks

/-- A command goes on to a next state, which keeps the budgets where the state before kept them. -/
def KeepsBudgets (s : State) (o : Host.Outcome State Fault Refusal) : Prop :=
  ∃ t, o = .next t ∧ (budgetsHold s → budgetsHold t)

theorem LeavesRacks.keepsBudgets {s : State} {o : Host.Outcome State Fault Refusal} (h : LeavesRacks s o) : KeepsBudgets s o := by
  obtain ⟨t, ho, hr⟩ := h
  exact ⟨t, ho, budgetsHold_of_racks hr⟩

@[simp] theorem done_fst (s : State) (a : Answer) : (done s a).1 = s := rfl

/-- What a request leaves in the racks is what its owner's body leaves, or it has not been taken. -/
theorem serve_racks (cmd : Command) (q : Req) (body : State → State × Option Answer) (s : State) :
    (serve cmd q body s).racks = s.racks ∨ (serve cmd q body s).racks = (body s).1.racks := by
  unfold serve
  split
  · split
    · right
      split
      · next heq => rw [heq]; exact answerPort_racks _ _ _
      · next heq => rw [heq]; exact keepWaiting_racks _ _
    · exact .inl (answerPort_racks _ _ _)
  · exact .inl rfl

theorem serve_leavesRacks {cmd : Command} {q : Req} {body : State → State × Option Answer} {s : State}
    (h : (body s).1.racks = s.racks) : LeavesRacks s (.next (serve cmd q body s)) :=
  ⟨_, rfl, (serve_racks cmd q body s).elim id fun hr => hr.trans h⟩

theorem serve_keepsBudgets {cmd : Command} {q : Req} {body : State → State × Option Answer} {s : State}
    (h : budgetsHold s → budgetsHold (body s).1) : KeepsBudgets s (.next (serve cmd q body s)) := by
  refine ⟨_, rfl, fun hs => ?_⟩
  obtain hr | hr := serve_racks cmd q body s
  · exact budgetsHold_of_racks hr hs
  · exact budgetsHold_of_racks hr (h hs)

/-! ## Requests that only read -/

section
variable (q : Req) (s : State)

theorem execIdentify_leavesRacks : LeavesRacks s (execIdentify q s) := serve_leavesRacks rfl

theorem execReadUnit_leavesRacks (u : UnitNo) : LeavesRacks s (execReadUnit q u s) := serve_leavesRacks rfl

theorem execSelectUnits_leavesRacks (p : SelectQuery) : LeavesRacks s (execSelectUnits q p s) :=
  serve_leavesRacks (by dsimp only; split <;> rfl)

theorem execReadGroup_leavesRacks (g : Nat) : LeavesRacks s (execReadGroup q g s) :=
  serve_leavesRacks (by dsimp only; split <;> rfl)

theorem execReadRack_leavesRacks (r : Nat) : LeavesRacks s (execReadRack q r s) :=
  serve_leavesRacks (by dsimp only; split <;> rfl)

theorem execReadChannelPlan_leavesRacks (part : Nat) : LeavesRacks s (execReadChannelPlan q part s) := by
  refine serve_leavesRacks ?_
  dsimp only
  repeat' split
  all_goals rfl

theorem execReadDirectory_leavesRacks (start : Nat) (wide : Bool) : LeavesRacks s (execReadDirectory q start wide s) := by
  refine serve_leavesRacks ?_
  dsimp only
  repeat' split
  all_goals rfl

/-! ## Requests about ports and the fleet (01, 11) -/

theorem execFetchNotices_leavesRacks : LeavesRacks s (execFetchNotices q s) := serve_leavesRacks (by simp)

theorem execSetPortOptions_leavesRacks (port : Nat) (mask : BitVec 24) (attention invert : Bool) :
    LeavesRacks s (execSetPortOptions q port mask attention invert s) := by
  refine serve_leavesRacks ?_
  dsimp only
  split
  · rfl
  · split <;> simp

theorem execEnrolUnit_leavesRacks (u : UnitNo) (kind : Option UnitKind) (serial : BitVec 32) (marks : Byte) (cycles : Half) :
    LeavesRacks s (execEnrolUnit q u kind serial marks cycles s) := by
  refine serve_leavesRacks ?_
  dsimp only
  split
  · rfl
  · split
    · rfl
    · split
      · rfl
      · split <;> simp

theorem execRetireUnit_leavesRacks (u : UnitNo) : LeavesRacks s (execRetireUnit q u s) := by
  refine serve_leavesRacks ?_
  dsimp only
  split
  · rfl
  · split
    · rfl
    · split <;> simp

theorem execUnenrolUnit_leavesRacks (u : UnitNo) : LeavesRacks s (execUnenrolUnit q u s) := by
  refine serve_leavesRacks ?_
  dsimp only
  repeat' split
  all_goals rfl

theorem execSetUnitMarks_leavesRacks (u : UnitNo) (clearMask setMask : Byte) :
    LeavesRacks s (execSetUnitMarks q u clearMask setMask s) := by
  refine serve_leavesRacks ?_
  dsimp only
  split
  · rfl
  · rw [done_fst]
    split <;> simp

theorem execReportUnits_leavesRacks (rs : List UnitReport) : LeavesRacks s (execReportUnits q rs s) :=
  serve_leavesRacks (by dsimp only; split <;> simp)

/-! ## Requests about issue, groups and tuning (04, 05) -/

theorem execIssueUnit_leavesRacks (group channel : Nat) : LeavesRacks s (execIssueUnit q group channel s) := by
  refine serve_leavesRacks ?_
  split
  · split
    · rfl
    · split <;> simp
  · split
    · rfl
    · split <;> simp

theorem execSetIssueSettings_leavesRacks (c : IssueSettings) : LeavesRacks s (execSetIssueSettings q c s) := serve_leavesRacks rfl

theorem execSetTime_leavesRacks (t : Time) : LeavesRacks s (execSetTime q t s) := serve_leavesRacks (by simp)

theorem execOpenGroup_leavesRacks (u : UnitNo) (channel : Nat) : LeavesRacks s (execOpenGroup q u channel s) := by
  refine serve_leavesRacks ?_
  split
  · rfl
  · split <;> simp

theorem execCloseGroup_leavesRacks (group : Nat) : LeavesRacks s (execCloseGroup q group s) := by
  refine serve_leavesRacks ?_
  dsimp only
  split
  · rfl
  · split
    · rfl
    · split
      · simp
      · rfl
    · rfl

theorem execMoveGroup_leavesRacks (group channel : Nat) : LeavesRacks s (execMoveGroup q group channel s) := by
  refine serve_leavesRacks ?_
  dsimp only
  split
  · split
    · rfl
    · rfl
    · split
      · rfl
      · split
        · rfl
        · split <;> simp
  · rfl

theorem execFetchTuneOrders_leavesRacks : LeavesRacks s (execFetchTuneOrders q s) := serve_leavesRacks rfl

theorem execReadTuneMap_leavesRacks (page : Nat) (restart : Bool) : LeavesRacks s (execReadTuneMap q page restart s) :=
  serve_leavesRacks (by dsimp only; split <;> simp)

/-! ## Requests about channels, players and emergency (06, 09, 10) -/

theorem execReportGuideLinks_leavesRacks (rs : List LinkReport) : LeavesRacks s (execReportGuideLinks q rs s) := by
  refine serve_leavesRacks ?_
  dsimp only
  split
  · rfl
  · split <;> simp

theorem execSetChannel_leavesRacks (channel : Nat) (f : ChannelForm) : LeavesRacks s (execSetChannel q channel f s) := by
  refine serve_leavesRacks ?_
  dsimp only
  split
  · rfl
  · split
    · split <;> simp
    · rfl

theorem execStartAnnouncement_leavesRacks (clip loops : Nat) (channels : List Nat) :
    LeavesRacks s (execStartAnnouncement q clip loops channels s) := by
  refine serve_leavesRacks ?_
  dsimp only
  split
  · rfl
  · split
    · rfl
    · split
      · rfl
      · split
        · rfl
        · split
          · rfl
          · split <;> simp

theorem execStopPlayer_leavesRacks (player : Nat) : LeavesRacks s (execStopPlayer q player s) := by
  refine serve_leavesRacks ?_
  dsimp only
  split
  · rfl
  · split
    · rfl
    · split <;> simp

theorem execRaiseEmergency_leavesRacks : LeavesRacks s (execRaiseEmergency q s) :=
  serve_leavesRacks (by dsimp only; split <;> simp)

theorem execClearEmergency_leavesRacks : LeavesRacks s (execClearEmergency q s) := by
  refine serve_leavesRacks ?_
  dsimp only
  split
  · rfl
  · split <;> simp

/-! ## Requests about the store (08, 12) -/

theorem execBeginClip_leavesRacks (clip : Nat) (l : Lang) (cls : Option ClipClass) :
    LeavesRacks s (execBeginClip q clip l cls s) := by
  refine serve_leavesRacks ?_
  repeat' split
  all_goals rfl

theorem execAppendAudio_leavesRacks (clip : Nat) (codes : List Byte) : LeavesRacks s (execAppendAudio q clip codes s) := by
  refine serve_leavesRacks ?_
  split
  · rfl
  · split
    · rfl
    · split
      · split
        · rfl
        · split <;> simp
      · rfl

theorem execSealClip_leavesRacks (clip : Nat) : LeavesRacks s (execSealClip q clip s) := by
  refine serve_leavesRacks ?_
  dsimp only
  repeat' split
  all_goals rfl

theorem execDeleteClip_leavesRacks (clip : Nat) : LeavesRacks s (execDeleteClip q clip s) := by
  refine serve_leavesRacks ?_
  dsimp only
  repeat' split
  all_goals rfl

theorem execEraseBlock_leavesRacks (block : Nat) : LeavesRacks s (execEraseBlock q block s) := by
  refine serve_leavesRacks ?_
  dsimp only
  split
  · rfl
  · split
    · rfl
    · split
      · rfl
      · split
        · rfl
        · split <;> simp

theorem execSuspendStore_leavesRacks : LeavesRacks s (execSuspendStore q s) := by
  refine serve_leavesRacks ?_
  dsimp only
  repeat' split
  all_goals rfl

theorem execResumeStore_leavesRacks : LeavesRacks s (execResumeStore q s) := by
  refine serve_leavesRacks ?_
  dsimp only
  repeat' split
  all_goals rfl

theorem execReadStore_leavesRacks (b : BlockNo) (offset length : Nat) : LeavesRacks s (execReadStore q b offset length s) :=
  serve_leavesRacks (by split <;> simp)

theorem execProtectGroup_leavesRacks (group : Nat) : LeavesRacks s (execProtectGroup q group s) :=
  serve_leavesRacks (by dsimp only; split <;> simp)

theorem execUnprotectGroup_leavesRacks (group : Nat) : LeavesRacks s (execUnprotectGroup q group s) := by
  refine serve_leavesRacks ?_
  dsimp only
  repeat' split
  all_goals rfl

theorem execSaveSiteRecord_leavesRacks (form : Option SaveForm) : LeavesRacks s (execSaveSiteRecord q form s) := by
  unfold execSaveSiteRecord
  split
  · refine serve_leavesRacks ?_
    dsimp only
    repeat' split
    all_goals rfl
  · exact ⟨s, rfl, rfl⟩

/-! ## Requests about racks and slots (02, 03) -/

theorem execForceMonitor_leavesRacks (r k : Nat) (m : Monitors) : LeavesRacks s (execForceMonitor q r k m s) := by
  refine serve_leavesRacks ?_
  repeat' split
  all_goals rfl

theorem execClearSlotFault_leavesRacks (r k : Nat) : LeavesRacks s (execClearSlotFault q r k s) := by
  refine serve_leavesRacks ?_
  split
  · rfl
  · split <;> simp

theorem execSetRackBudget_keepsBudgets (r budget : Nat) : KeepsBudgets s (execSetRackBudget q r budget s) := by
  refine serve_keepsBudgets fun h => ?_
  dsimp only
  split
  · exact h
  · exact applyBudget_budgetsHold _ (Nat.min_le_right _ _) h

theorem execSetChargeSettings_keepsBudgets (c : ChargeSettings) : KeepsBudgets s (execSetChargeSettings q c s) :=
  serve_keepsBudgets (applyCharge_budgetsHold _)

theorem execResetPart_keepsBudgets : KeepsBudgets s (execResetPart q s) :=
  serve_keepsBudgets fun _ => boot_budgetsHold _ _ s

end

/-! ## Transfers, clocks, frames, the store's events and the pins -/

section
variable (s : State)

theorem execFrameWrite_leavesRacks (p : PortId) (bs : List Byte) : LeavesRacks s (execFrameWrite p bs s) :=
  ⟨_, rfl, by split <;> simp⟩

theorem execReadTransfer_leavesRacks (p : PortId) (n : Nat) : LeavesRacks s (execReadTransfer p n s) :=
  ⟨_, rfl, by split <;> simp⟩

theorem execSiteClockAdvance_leavesRacks : LeavesRacks s (execSiteClockAdvance s) := ⟨_, rfl, by split <;> simp⟩

theorem execAudioFrame_leavesRacks (codes : Table Half 16) : LeavesRacks s (execAudioFrame codes s) := by
  refine ⟨_, rfl, ?_⟩
  split
  · rfl
  · rfl
  · simp only [mixFrame_racks, takePresence_racks, sendOutputs]
    split <;> simp

theorem execMixWindowEnd_leavesRacks : LeavesRacks s (execMixWindowEnd s) := ⟨_, rfl, by split <;> simp⟩

theorem execReadPathServe_leavesRacks : LeavesRacks s (execReadPathServe s) := by
  refine ⟨_, rfl, ?_⟩
  split
  · split <;> simp
  · rfl

theorem execRefillLand_leavesRacks : LeavesRacks s (execRefillLand s) := ⟨_, rfl, by split <;> simp⟩

theorem execReadStoreComplete_leavesRacks : LeavesRacks s (execReadStoreComplete s) := by
  refine ⟨_, rfl, ?_⟩
  split
  · split <;> simp [freePath]
  · rfl

theorem execProgramDone_leavesRacks (faults : List (Nat × Byte)) : LeavesRacks s (execProgramDone faults s) := by
  refine ⟨_, rfl, ?_⟩
  split
  · split <;> simp
  · rfl

theorem execGatheringWindowExpiry_leavesRacks : LeavesRacks s (execGatheringWindowExpiry s) := ⟨_, rfl, by split <;> rfl⟩

theorem execPendingMarksDone_leavesRacks (faults : List (Nat × Byte)) : LeavesRacks s (execPendingMarksDone faults s) :=
  ⟨_, rfl, by split <;> simp⟩

theorem execBlockEraseDone_leavesRacks (left : List (Nat × Byte)) : LeavesRacks s (execBlockEraseDone left s) := by
  refine ⟨_, rfl, ?_⟩
  split
  · split <;> simp
  · rfl

theorem execSuspensionComplete_leavesRacks : LeavesRacks s (execSuspensionComplete s) := ⟨_, rfl, by split <;> simp⟩

theorem execQuietTimerExpiry_leavesRacks : LeavesRacks s (execQuietTimerExpiry s) := ⟨_, rfl, by split <;> rfl⟩

theorem execRecordSaveDone_leavesRacks : LeavesRacks s (execRecordSaveDone s) := by
  refine ⟨_, rfl, ?_⟩
  split
  · split <;> simp
  · rfl

theorem execEvacuationInputChange_leavesRacks (active : Bool) : LeavesRacks s (execEvacuationInputChange active s) := by
  refine ⟨_, rfl, ?_⟩
  split
  · rfl
  · rfl
  · split <;> simp

theorem execStartupEnd_leavesRacks : LeavesRacks s (execStartupEnd s) := ⟨_, rfl, by split <;> simp [openPorts]⟩

/-! ## The rack link (02) -/

theorem execRackPoll_leavesRacks : LeavesRacks s (execRackPoll s) := ⟨_, rfl, by split <;> rfl⟩

theorem execLatchWindowExpiry_leavesRacks (r : RackNo) (k : SlotNo) : LeavesRacks s (execLatchWindowExpiry r k s) :=
  ⟨_, rfl, by split <;> simp⟩

theorem execRackAnswer_keepsBudgets (r : RackNo) (rds : Table Reading 16) : KeepsBudgets s (execRackAnswer r rds s) := by
  refine ⟨_, rfl, fun h => ?_⟩
  have hnoted : budgetsHold (notePoll r true s) := budgetsHold_of_racks (notePoll_racks r true s) h
  split
  · exact h
  · split
    · exact updRack_budgetsHold r hnoted rfl (Nat.le_refl _)
    · exact returnRack_budgetsHold r rds hnoted

theorem execMissedPoll_keepsBudgets (r : RackNo) : KeepsBudgets s (execMissedPoll r s) := by
  refine ⟨_, rfl, fun h => ?_⟩
  have hnoted : budgetsHold (notePoll r false s) := budgetsHold_of_racks (notePoll_racks r false s) h
  split
  · exact h
  · split
    · split
      · exact updRack_budgetsHold r hnoted rfl (Nat.le_refl _)
      · exact loseRack_budgetsHold r hnoted
    · exact updRack_budgetsHold r hnoted rfl (Nat.le_refl _)

theorem execSlotReading_keepsBudgets (r : RackNo) (k : SlotNo) (rd : Reading) : KeepsBudgets s (execSlotReading r k rd s) := by
  refine ⟨_, rfl, fun h => ?_⟩
  split
  · exact takeReading_budgetsHold _ rd h
  · exact h

theorem execSerialArrived_keepsBudgets (r : RackNo) (k : SlotNo) (serial : BitVec 32) :
    KeepsBudgets s (execSerialArrived r k serial s) := by
  refine ⟨_, rfl, fun h => ?_⟩
  split
  · exact completeIdentify_budgetsHold _ serial h
  · exact h

theorem execIdentifyTimeout_keepsBudgets (r : RackNo) (k : SlotNo) : KeepsBudgets s (execIdentifyTimeout r k s) := by
  refine ⟨_, rfl, fun h => ?_⟩
  split
  · dsimp only
    split
    · exact h
    · exact completeIdentify_budgetsHold _ 0 (budgetsHold_of_racks (State.updSlot_racks ..) h)
  · exact h

/-! ## Resets (12) -/

theorem execPowerOn_keepsBudgets (straps : Straps) : KeepsBudgets s (execPowerOn straps s) :=
  ⟨_, rfl, fun _ => boot_budgetsHold _ _ s⟩

theorem execResetLineAssert_keepsBudgets : KeepsBudgets s (execResetLineAssert s) :=
  ⟨_, rfl, fun _ => boot_budgetsHold .resetLine s.straps s⟩

theorem execResetLineRelease_keepsBudgets (straps : Straps) : KeepsBudgets s (execResetLineRelease straps s) := by
  refine ⟨_, rfl, fun h => ?_⟩
  split
  · exact boot_budgetsHold _ _ s
  · exact h

end

/-! ## Every command -/

theorem exec_keepsBudgets (i : Instr) (s : State) : KeepsBudgets s (exec i s) :=
  match i with
  | .identify q => (execIdentify_leavesRacks q s).keepsBudgets
  | .fetchNotices q => (execFetchNotices_leavesRacks q s).keepsBudgets
  | .readUnit q u => (execReadUnit_leavesRacks q s u).keepsBudgets
  | .selectUnits q p => (execSelectUnits_leavesRacks q s p).keepsBudgets
  | .readGroup q g => (execReadGroup_leavesRacks q s g).keepsBudgets
  | .readRack q r => (execReadRack_leavesRacks q s r).keepsBudgets
  | .readChannelPlan q part => (execReadChannelPlan_leavesRacks q s part).keepsBudgets
  | .readDirectory q start wide => (execReadDirectory_leavesRacks q s start wide).keepsBudgets
  | .issueUnit q g c => (execIssueUnit_leavesRacks q s g c).keepsBudgets
  | .openGroup q u c => (execOpenGroup_leavesRacks q s u c).keepsBudgets
  | .closeGroup q g => (execCloseGroup_leavesRacks q s g).keepsBudgets
  | .moveGroup q g c => (execMoveGroup_leavesRacks q s g c).keepsBudgets
  | .setUnitMarks q u clearMask setMask => (execSetUnitMarks_leavesRacks q s u clearMask setMask).keepsBudgets
  | .reportUnits q rs => (execReportUnits_leavesRacks q s rs).keepsBudgets
  | .reportGuideLinks q rs => (execReportGuideLinks_leavesRacks q s rs).keepsBudgets
  | .fetchTuneOrders q => (execFetchTuneOrders_leavesRacks q s).keepsBudgets
  | .readTuneMap q page restart => (execReadTuneMap_leavesRacks q s page restart).keepsBudgets
  | .enrolUnit q u kind serial marks cycles => (execEnrolUnit_leavesRacks q s u kind serial marks cycles).keepsBudgets
  | .retireUnit q u => (execRetireUnit_leavesRacks q s u).keepsBudgets
  | .unenrolUnit q u => (execUnenrolUnit_leavesRacks q s u).keepsBudgets
  | .setRackBudget q r budget => execSetRackBudget_keepsBudgets q s r budget
  | .setChargeSettings q c => execSetChargeSettings_keepsBudgets q s c
  | .setIssueSettings q c => (execSetIssueSettings_leavesRacks q s c).keepsBudgets
  | .forceMonitor q r k m => (execForceMonitor_leavesRacks q s r k m).keepsBudgets
  | .clearSlotFault q r k => (execClearSlotFault_leavesRacks q s r k).keepsBudgets
  | .setChannel q c f => (execSetChannel_leavesRacks q s c f).keepsBudgets
  | .setTime q t => (execSetTime_leavesRacks q s t).keepsBudgets
  | .startAnnouncement q clip loops cs => (execStartAnnouncement_leavesRacks q s clip loops cs).keepsBudgets
  | .stopPlayer q p => (execStopPlayer_leavesRacks q s p).keepsBudgets
  | .raiseEmergency q => (execRaiseEmergency_leavesRacks q s).keepsBudgets
  | .clearEmergency q => (execClearEmergency_leavesRacks q s).keepsBudgets
  | .beginClip q clip l cls => (execBeginClip_leavesRacks q s clip l cls).keepsBudgets
  | .appendAudio q clip codes => (execAppendAudio_leavesRacks q s clip codes).keepsBudgets
  | .sealClip q clip => (execSealClip_leavesRacks q s clip).keepsBudgets
  | .deleteClip q clip => (execDeleteClip_leavesRacks q s clip).keepsBudgets
  | .eraseBlock q b => (execEraseBlock_leavesRacks q s b).keepsBudgets
  | .suspendStore q => (execSuspendStore_leavesRacks q s).keepsBudgets
  | .resumeStore q => (execResumeStore_leavesRacks q s).keepsBudgets
  | .readStore q b offset length => (execReadStore_leavesRacks q s b offset length).keepsBudgets
  | .protectGroup q g => (execProtectGroup_leavesRacks q s g).keepsBudgets
  | .unprotectGroup q g => (execUnprotectGroup_leavesRacks q s g).keepsBudgets
  | .saveSiteRecord q form => (execSaveSiteRecord_leavesRacks q s form).keepsBudgets
  | .setPortOptions q port mask attention invert =>
    (execSetPortOptions_leavesRacks q s port mask attention invert).keepsBudgets
  | .resetPart q => execResetPart_keepsBudgets q s
  | .frameWrite p bs => (execFrameWrite_leavesRacks s p bs).keepsBudgets
  | .readTransfer p n => (execReadTransfer_leavesRacks s p n).keepsBudgets
  | .ignoredTransfer _ _ => ⟨s, rfl, id⟩
  | .rackPoll => (execRackPoll_leavesRacks s).keepsBudgets
  | .rackAnswer r rds => execRackAnswer_keepsBudgets s r rds
  | .missedPoll r => execMissedPoll_keepsBudgets s r
  | .slotReading r k rd => execSlotReading_keepsBudgets s r k rd
  | .serialArrived r k serial => execSerialArrived_keepsBudgets s r k serial
  | .identifyTimeout r k => execIdentifyTimeout_keepsBudgets s r k
  | .latchWindowExpiry r k => (execLatchWindowExpiry_leavesRacks s r k).keepsBudgets
  | .siteClockAdvance => (execSiteClockAdvance_leavesRacks s).keepsBudgets
  | .audioFrame codes => (execAudioFrame_leavesRacks s codes).keepsBudgets
  | .mixWindowEnd => (execMixWindowEnd_leavesRacks s).keepsBudgets
  | .readPathServe => (execReadPathServe_leavesRacks s).keepsBudgets
  | .refillLand => (execRefillLand_leavesRacks s).keepsBudgets
  | .readStoreComplete => (execReadStoreComplete_leavesRacks s).keepsBudgets
  | .programDone faults => (execProgramDone_leavesRacks s faults).keepsBudgets
  | .gatheringWindowExpiry => (execGatheringWindowExpiry_leavesRacks s).keepsBudgets
  | .pendingMarksDone faults => (execPendingMarksDone_leavesRacks s faults).keepsBudgets
  | .blockEraseDone left => (execBlockEraseDone_leavesRacks s left).keepsBudgets
  | .suspensionComplete => (execSuspensionComplete_leavesRacks s).keepsBudgets
  | .quietTimerExpiry => (execQuietTimerExpiry_leavesRacks s).keepsBudgets
  | .recordSaveDone => (execRecordSaveDone_leavesRacks s).keepsBudgets
  | .evacuationInputChange active => (execEvacuationInputChange_leavesRacks s active).keepsBudgets
  | .serviceKeyChange _ => ⟨_, rfl, id⟩
  | .powerOn straps => execPowerOn_keepsBudgets s straps
  | .resetLineAssert => execResetLineAssert_keepsBudgets s
  | .resetLineRelease straps => execResetLineRelease_keepsBudgets s straps
  | .startupEnd => (execStartupEnd_leavesRacks s).keepsBudgets

/-- Settles O4: a step is the front command on the state that holds the rest of the queue, and every command keeps the budgets: a grant is
made only from what remains, and every other change of a grant list lowers its sum or cuts it back to the new budget. -/
theorem grantsStayWithinBudget : Obligations.GrantsStayWithinBudget := by
  intro s t hs ht
  unfold step at ht
  split at ht
  · cases ht
    exact hs
  · next i rest _ =>
    obtain ⟨t', ho, hkeeps⟩ := exec_keepsBudgets i { s with pending := rest }
    rw [ho] at ht
    cases ht
    exact hkeeps hs

end Sys2Proof.Machine
end

section
/-! PROOFS. The site clock and the deadline check (04 R66 to R68). -/

namespace Sys2Proof.Machine

/-! ## One unit's deadline (04 R67) -/

/-- The entry as the deadline check of 04 R67 leaves it at a site time: a unit out on a lease whose deadline is reached is OVERDUE. -/
def judgedEntry (now : Time) (e : UnitEntry) : UnitEntry :=
  if (e.location = .issued ∨ e.location = .releasing) ∧ (∃ d, e.deadline = some d ∧ (d - now).toInt ≤ 0)
  then { e with overdue := true } else e

theorem judgedEntry_idem (now : Time) (e : UnitEntry) : judgedEntry now (judgedEntry now e) = judgedEntry now e := by
  unfold judgedEntry
  split <;> rfl

/-- A unit falls overdue when it is out on a reached deadline and not yet OVERDUE. -/
theorem fallsOverdue_iff (s : State) (e : UnitEntry) :
    fallsOverdue s e = true ↔ e.overdue = false
      ∧ (e.location = .issued ∨ e.location = .releasing) ∧ ∃ d, e.deadline = some d ∧ (d - s.siteTime).toInt ≤ 0 := by
  unfold fallsOverdue
  cases e.deadline <;> simp [isOut, leaseRemaining, and_comm, and_assoc]

/-- The check writes OVERDUE where it was clear; where it was set already the check has nothing to write. -/
theorem judgedEntry_eq (s : State) (e : UnitEntry) :
    judgedEntry s.siteTime e = if fallsOverdue s e = true then { e with overdue := true } else e := by
  have hiff := fallsOverdue_iff s e
  unfold judgedEntry
  split
  · next hreached =>
    cases ho : e.overdue
    · rw [if_pos (hiff.2 ⟨ho, hreached⟩)]
    · cases e; cases ho; exact (ite_self _).symm
  · next hreached => rw [if_neg fun hf => hreached (hiff.1 hf).2]

theorem judgeDeadline_unit (u : UnitNo) (s : State) (v : UnitNo) :
    (judgeDeadline u s).unit v = if u = v then judgedEntry s.siteTime (s.unit v) else s.unit v := by
  unfold judgeDeadline
  dsimp only
  split
  · next hf =>
    by_cases huv : u = v
    · subst huv
      simp [queueNotice, judgedEntry_eq, hf]
    · simp [queueNotice, State.updUnit_unit, huv]
  · next hf =>
    split
    · next huv => subst huv; rw [judgedEntry_eq, if_neg hf]
    · rfl

theorem judgeDeadline_samePortStates (u : UnitNo) (s : State) : SamePortStates s (judgeDeadline u s) := by
  unfold judgeDeadline
  dsimp only
  split
  · exact (updUnit_samePortStates u _ s).trans (queueNotice_samePortStates _ _ _ _)
  · exact SamePortStates.refl s

theorem judgeDeadline_fleetOnly (u : UnitNo) (s : State) : FleetOnly s (judgeDeadline u s) := by
  unfold judgeDeadline
  dsimp only
  split
  · exact (updUnit_fleetOnly u _ s).trans (queueNotice_fleetOnly ..)
  · exact FleetOnly.refl s

/-! ## The deadline check (04 R67) -/

theorem FleetOnly.siteTime {s t : State} (h : FleetOnly s t) : t.siteTime = s.siteTime := by
  have hc := congrArg State.siteTime h
  exact hc

/-- What the check of a list of units does: each unit listed is judged once, and only the fleet and the notice queues differ. -/
structure DeadlinesJudged (us : List UnitNo) (s t : State) : Prop where
  unit : ∀ v, t.unit v = if v ∈ us then judgedEntry s.siteTime (s.unit v) else s.unit v
  ports : SamePortStates s t
  frame : FleetOnly s t

theorem foldl_judgeDeadline_judged (us : List UnitNo) (s : State) :
    DeadlinesJudged us s (us.foldl (fun t u => judgeDeadline u t) s) := by
  induction us generalizing s with
  | nil => exact ⟨fun v => by simp, SamePortStates.refl s, FleetOnly.refl s⟩
  | cons u rest ih =>
    obtain ⟨hunit, hports, hframe⟩ := ih (judgeDeadline u s)
    have hstep := judgeDeadline_fleetOnly u s
    refine ⟨fun v => ?_, (judgeDeadline_samePortStates u s).trans hports, hstep.trans hframe⟩
    rw [List.foldl_cons, hunit, judgeDeadline_unit, hstep.siteTime]
    by_cases huv : u = v
    · subst huv
      simp [judgedEntry_idem]
    · simp [huv, Ne.symm huv]

theorem judgeDeadlines_judged (s : State) : DeadlinesJudged (every 256) s (judgeDeadlines s) := foldl_judgeDeadline_judged _ s

theorem judgeDeadlines_unit (s : State) (v : UnitNo) : (judgeDeadlines s).unit v = judgedEntry s.siteTime (s.unit v) := by
  rw [(judgeDeadlines_judged s).unit, if_pos (mem_every v)]

/-! ## The two commands that move the clock (04 R66, R68) -/

/-- The site time moved, and every deadline judged by it. -/
def clockMoved (now : Time) (s : State) : State := judgeDeadlines { s with siteTime := now }

theorem clockMoved_unit (now : Time) (s : State) (v : UnitNo) : (clockMoved now s).unit v = judgedEntry now (s.unit v) :=
  judgeDeadlines_unit { s with siteTime := now } v

theorem clockMoved_fleetOnly (now : Time) (s : State) : FleetOnly { s with siteTime := now } (clockMoved now s) :=
  (judgeDeadlines_judged _).frame

theorem clockMoved_samePortStates (now : Time) (s : State) : SamePortStates s (clockMoved now s) :=
  SamePortStates.trans (t := { s with siteTime := now }) (fun p => by cases p <;> rfl) (judgeDeadlines_judged _).ports

theorem exec_setTime {q : Req} {s : State} (now : Time) (h : InHand .setTime q s) :
    exec (.setTime q now) s = .next (answerPort q.port
      ⟨.ok, ⟨false, false, false, now == s.siteTime⟩, .times s.siteTime now⟩ (clockMoved now s)) :=
  congrArg Host.Outcome.next (h.serve rfl)

theorem exec_siteClockAdvance {s : State} (h : s.phase = .running) :
    exec .siteClockAdvance s = .next (clockMoved (s.siteTime + 1) s) :=
  congrArg Host.Outcome.next (if_pos (beq_iff_eq.2 h))

/-- Settles O31: both commands move the clock and run the check, a fold over the fleet in which judging a unit neither moves the clock nor
reaches another unit. -/
theorem clockJudgesDeadlines : Obligations.ClockJudgesDeadlines := by
  intro q time s
  refine ⟨fun h => ?_, fun h => ?_⟩
  · have hframe := (clockMoved_fleetOnly time s).trans (answerPort_fleetOnly q.port
      ⟨.ok, ⟨false, false, false, time == s.siteTime⟩, .times s.siteTime time⟩ (clockMoved time s))
    refine ⟨_, exec_setTime time h, hframe.siteTime, fun u => ?_, (clockMoved_samePortStates time s).answered, hframe⟩
    rw [answerPort_unit]
    exact clockMoved_unit time s u
  · have hframe := clockMoved_fleetOnly (s.siteTime + 1) s
    exact ⟨_, exec_siteClockAdvance h, hframe.siteTime, clockMoved_unit (s.siteTime + 1) s, hframe⟩

end Sys2Proof.Machine
end

section
/-! PROOFS. Issue Unit (04 R70, R71): the slot released, the entry written, the member counted, and the orders and notices that follow. -/

namespace Sys2Proof.Machine

/-! ## The slot of an issue (04 R71 step 2) -/

theorem releaseSlot_of_slot {u : UnitNo} {s : State} {i : SlotIx} (h : (s.unit u).slot = some i) :
    releaseSlot u s = changeSlot i (fun sl => { sl with state := .releasing, window := some s.issue.latchWindow }) s := by
  simp only [releaseSlot, h]

theorem releaseSlot_of_no_slot {u : UnitNo} {s : State} (h : (s.unit u).slot = none) : releaseSlot u s = s := by
  simp only [releaseSlot, h]

/-- The slots alone differ after a release. -/
theorem releaseSlot_eq (u : UnitNo) (s : State) : releaseSlot u s = { s with slots := (releaseSlot u s).slots } := by
  unfold releaseSlot
  split <;> rfl

/-- The slot of the issued unit is RELEASING with its latch window running, and every other slot stands. -/
structure SlotReleased (u : UnitNo) (s t : State) : Prop where
  own : ∀ i, (s.unit u).slot = some i →
    (t.slot i).state = .releasing ∧ (t.slot i).out = ⟨false, 0, .take⟩ ∧ (t.slot i).window = some s.issue.latchWindow
  others : ∀ i, (s.unit u).slot ≠ some i → t.slot i = s.slot i

theorem releaseSlot_slotReleased (u : UnitNo) (s : State) : SlotReleased u s (releaseSlot u s) := by
  refine ⟨fun i hi => ?_, fun i hi => ?_⟩
  · rw [releaseSlot_of_slot hi]
    refine ⟨by simp, ?_, by simp⟩
    rw [changeSlot_out]
    rfl
  · cases hj : (s.unit u).slot with
    | none => rw [releaseSlot_of_no_slot hj]
    | some j =>
      rw [releaseSlot_of_slot hj]
      exact changeSlot_slot_of_ne _ _ _ fun hij => hi (hij ▸ hj)

/-! ## The order and the notices of an issue (04 R64, 05 R94) -/

/-- Nothing but the tune queue with its RESYNC, the arming indicator and the ports differs. -/
def OrdersOnly (s t : State) : Prop := SameButPorts { s with tune := t.tune, resync := t.resync, armed := t.armed } t

theorem OrdersOnly.trans {s t u : State} (h : OrdersOnly s t) (k : OrdersOnly t u) : OrdersOnly s u := by
  have hk := congrArg (fun x : State => { x with desk := s.desk, transmitter := s.transmitter, operations := s.operations }) k
  have hh := congrArg (fun x : State => { x with tune := u.tune, resync := u.resync, armed := u.armed }) h
  exact hk.trans hh

/-- An order replaces one, joins the queue, or is dropped with RESYNC set, a notice with it when RESYNC was clear. -/
theorem enqueueOrder_cases (u : UnitNo) (air : Nat) (s : State) :
    (∃ orders, enqueueOrder u air s = { s with tune := orders })
      ∨ enqueueOrder u air s = { s with resync := true }
      ∨ ∃ d, enqueueOrder u air s = queueNotice .tuneResync (.unit u) d { s with resync := true } := by
  unfold enqueueOrder
  split
  · exact .inl ⟨_, rfl⟩
  · exact .inl ⟨_, rfl⟩
  · dsimp only
    split
    · exact .inr (.inl rfl)
    · exact .inr (.inr ⟨_, rfl⟩)

theorem enqueueOrder_ordersOnly (u : UnitNo) (air : Nat) (s : State) : OrdersOnly s (enqueueOrder u air s) := by
  obtain ⟨orders, h⟩ | h | ⟨d, h⟩ := enqueueOrder_cases u air s <;> rw [h] <;> rfl

theorem enqueueOrder_samePortStates (u : UnitNo) (air : Nat) (s : State) : SamePortStates s (enqueueOrder u air s) := by
  have hresync : SamePortStates s { s with resync := true } := fun p => by cases p <;> rfl
  obtain ⟨orders, h⟩ | h | ⟨d, h⟩ := enqueueOrder_cases u air s <;> rw [h]
  · exact fun p => by cases p <;> rfl
  · exact hresync
  · exact hresync.trans (queueNotice_samePortStates _ _ _ _)

theorem judgeReadyLow_cases (u : UnitNo) (s : State) :
    judgeReadyLow u s = s ∨ ∃ d, judgeReadyLow u s = queueNotice .readyLow (.unit u) d { s with armed := false } := by
  unfold judgeReadyLow
  dsimp only
  split
  · exact .inr ⟨_, rfl⟩
  · exact .inl rfl

theorem judgeReadyLow_ordersOnly (u : UnitNo) (s : State) : OrdersOnly s (judgeReadyLow u s) := by
  obtain h | ⟨d, h⟩ := judgeReadyLow_cases u s <;> rw [h] <;> rfl

theorem judgeReadyLow_samePortStates (u : UnitNo) (s : State) : SamePortStates s (judgeReadyLow u s) := by
  obtain h | ⟨d, h⟩ := judgeReadyLow_cases u s <;> rw [h]
  · exact SamePortStates.refl s
  · exact SamePortStates.trans (t := { s with armed := false }) (fun p => by cases p <;> rfl) (queueNotice_samePortStates _ _ _ _)

/-! ## An issue (04 R71) -/

/-- What an issue of unit u writes, before its order and notices. -/
def unitOut (u : UnitNo) (g : Option GroupNo) (c : ChanNo) (s : State) : State :=
  { s with
    ready := s.ready.tail, slots := (releaseSlot u s).slots, fleet := s.fleet.upd u (issuedEntry s g c),
    groups := (addMember g s).groups }

/-- The steps of an issue: the writes, none of which reaches what another reads, then the tune order and the READY_LOW judgement. -/
theorem issueTo_eq (u : UnitNo) (g : Option GroupNo) (c : ChanNo) (s : State) :
    issueTo u g c s = judgeReadyLow u (enqueueOrder u (airCode s.siteCode c) (unitOut u g c s)) := by
  have hslots : (releaseSlot u { s with ready := s.ready.tail }).slots = (releaseSlot u s).slots := by
    unfold releaseSlot
    simp only [State.unit]
    split <;> rfl
  unfold issueTo unitOut
  dsimp only
  rw [releaseSlot_eq, hslots]
  cases g <;> rfl

theorem issueTo_ordersOnly (u : UnitNo) (g : Option GroupNo) (c : ChanNo) (s : State) : OrdersOnly (unitOut u g c s) (issueTo u g c s) := by
  rw [issueTo_eq]
  exact (enqueueOrder_ordersOnly ..).trans (judgeReadyLow_ordersOnly ..)

theorem issueTo_samePortStates (u : UnitNo) (g : Option GroupNo) (c : ChanNo) (s : State) : SamePortStates s (issueTo u g c s) := by
  have hout : SamePortStates s (unitOut u g c s) := fun p => by cases p <;> rfl
  rw [issueTo_eq]
  exact hout.trans ((enqueueOrder_samePortStates _ _ _).trans (judgeReadyLow_samePortStates _ _))

/-- What an issue does: the head of the queue leaves it with its slot released, its entry written and its member counted. -/
structure Issued (u : UnitNo) (g : Option GroupNo) (c : ChanNo) (s t : State) : Prop where
  entry : t.unit u = issuedEntry s g c (s.unit u)
  others : OtherUnitsSame u s t
  ready : t.ready = s.ready.tail
  slots : SlotReleased u s t
  groups : t.groups = (addMember g s).groups
  frame : SameButPorts { s with fleet := t.fleet, ready := t.ready, slots := t.slots, tune := t.tune, resync := t.resync,
                                armed := t.armed, groups := t.groups } t

theorem unitOut_issued (u : UnitNo) (g : Option GroupNo) (c : ChanNo) (s : State) : Issued u g c s (unitOut u g c s) := by
  obtain ⟨hown, hothers⟩ := releaseSlot_slotReleased u s
  exact ⟨Table.get_upd_self .., updUnit_otherUnitsSame u (issuedEntry s g c) s, rfl, ⟨hown, hothers⟩, rfl, rfl⟩

/-- Orders, arming and port work after an issue leave it standing. -/
theorem Issued.ordersOnly {u : UnitNo} {g : Option GroupNo} {c : ChanNo} {s t r : State} (h : Issued u g c s t) (k : OrdersOnly t r) :
    Issued u g c s r := by
  have hfleet : r.fleet = t.fleet := (congrArg State.fleet k :)
  have hslots : r.slots = t.slots := (congrArg State.slots k :)
  have hready : r.ready = t.ready := (congrArg State.ready k :)
  have hgroups : r.groups = t.groups := (congrArg State.groups k :)
  have hunit : ∀ v, r.unit v = t.unit v := fun v => congrArg (Table.get · v) hfleet
  have hslot : ∀ i, r.slot i = t.slot i := fun i => congrArg (Table.get · i) hslots
  obtain ⟨hentry, hothers, hhead, ⟨hown, hslotOthers⟩, hcount, hframe⟩ := h
  refine ⟨(hunit u).trans hentry, fun v hv => (hunit v).trans (hothers v hv), hready.trans hhead,
    ⟨fun i hi => ?_, fun i hi => (hslot i).trans (hslotOthers i hi)⟩, hgroups.trans hcount, ?_⟩
  · rw [hslot]; exact hown i hi
  · have hk := congrArg (fun x : State => { x with desk := s.desk, transmitter := s.transmitter, operations := s.operations }) k
    have hh := congrArg (fun x : State =>
      { x with
        fleet := r.fleet, ready := r.ready, slots := r.slots, tune := r.tune, resync := r.resync, armed := r.armed,
        groups := r.groups }) hframe
    rw [hfleet, hready, hslots, hgroups] at hh ⊢
    exact hk.trans hh

theorem issueTo_issued (u : UnitNo) (g : Option GroupNo) (c : ChanNo) (s : State) : Issued u g c s (issueTo u g c s) :=
  (unitOut_issued u g c s).ordersOnly (issueTo_ordersOnly u g c s)

/-- An issue to a group counts one member of that group and leaves the other groups alone. -/
theorem Issued.group {u : UnitNo} {g : GroupNo} {c : ChanNo} {s t : State} (h : Issued u (some g) c s t) (k : GroupNo) :
    t.group k = if g = k then { s.group k with members := (s.group k).members + 1 } else s.group k :=
  (congrArg (Table.get · k) h.groups).trans (State.updGroup_group s g _ k)

/-! ## The request (04 R70) -/

theorem answerPort_ordersOnly (p : PortId) (a : Answer) (s : State) : OrdersOnly s (answerPort p a s) := by
  cases p <;> rfl

/-- The answer to an issue of unit u that leaves a queue of rest. -/
def issueAnswer (u : UnitNo) (rest : List UnitNo) (c : ChanNo) (s : State) : Answer :=
  ⟨.ok, ⟨false, rest.isEmpty, false, false⟩, .issued u ((s.unit u).slot.getD 0) c ((s.siteCode * 16 + c.val) % 65536)
    (s.siteTime + BitVec.ofNat 32 s.issue.leaseDuration) rest.length⟩

theorem issueHead_eq {u : UnitNo} {rest : List UnitNo} {s : State} (g : Option GroupNo) (c : ChanNo) (h : s.ready = u :: rest) :
    issueHead g c s = done (issueTo u g c s) (issueAnswer u rest c s) := by
  simp only [issueHead, h, (issueTo_issued u g c s).entry]
  rfl

theorem exec_issueUnit_free {q : Req} {u : UnitNo} {rest : List UnitNo} {c : ChanNo} {s : State} (h : InHand .issueUnit q s)
    (hr : s.ready = u :: rest) (hc : (s.channel c).state = .live ∨ (s.channel c).state = .hold) :
    exec (.issueUnit q 0 c.val) s = .next (answerPort q.port (issueAnswer u rest c s) (issueTo u none c s)) := by
  refine congrArg Host.Outcome.next (h.serve ?_)
  simp only [if_true, inRange_val, if_pos hc, issueHead_eq none c hr]

theorem exec_issueUnit_group {q : Req} {u : UnitNo} {rest : List UnitNo} {c : ChanNo} {g : GroupNo} {s : State} (n : Nat)
    (h : InHand .issueUnit q s) (hr : s.ready = u :: rest) (ho : (s.group g).state = .opened) (hc : (s.group g).channel = some c) :
    exec (.issueUnit q (g.val + 1) n) s = .next (answerPort q.port (issueAnswer u rest c s) (issueTo u (some g) c s)) := by
  refine congrArg Host.Outcome.next (h.serve ?_)
  simp only [Nat.succ_ne_zero, if_false, groupOf_succ, ho, hc, issueHead_eq (some g) c hr]

/-- Settles O30: both forms issue the head of the queue, and the order and the notices that follow reach none of what was written. -/
theorem issueUnitTakesHead : Obligations.IssueUnitTakesHead := by
  intro q u rest c s h hr
  have hissued : ∀ g, Issued u g c s (answerPort q.port (issueAnswer u rest c s) (issueTo u g c s)) := fun g =>
    (issueTo_issued u g c s).ordersOnly (answerPort_ordersOnly _ _ _)
  have hanswered : ∀ g, Answered q .ok ⟨false, rest.isEmpty, false, false⟩ (issueAnswer u rest c s).data s
      (answerPort q.port (issueAnswer u rest c s) (issueTo u g c s)) := fun g =>
    (issueTo_samePortStates u g c s).answered
  have htail : s.ready.tail = rest := congrArg List.tail hr
  refine ⟨fun hc => ?_, fun g n ho hc => ?_⟩
  · obtain ⟨hentry, hothers, hready, ⟨hown, hslots⟩, hgroups, hframe⟩ := hissued none
    rw [hgroups] at hframe
    exact ⟨_, exec_issueUnit_free h hr hc, hentry, hothers, hready.trans htail, ⟨hown, hslots⟩, hanswered none, hframe⟩
  · have hgroup := (hissued (some g)).group
    obtain ⟨hentry, hothers, hready, ⟨hown, hslots⟩, _, hframe⟩ := hissued (some g)
    exact ⟨_, exec_issueUnit_group n h hr ho hc, hentry, hothers, hready.trans htail, (hgroup g).trans (if_pos rfl),
      fun g' hg => (hgroup g').trans (if_neg (Ne.symm hg)), ⟨hown, hslots⟩, hanswered (some g), hframe⟩

end Sys2Proof.Machine
end

section
/-! PROOFS. The mix engine's arithmetic (07 R125, R128): a scaled value is rounded, an exact half upward, and stays between the bounds that its
factor sets. -/

namespace Sys2Proof.Machine

/-! ## Terms (07 R125, R126) -/

theorem term_eq_fdiv (e : Entry) : term e = Int.fdiv (e.sample * e.gain + 8192) 16384 :=
  (Int.fdiv_eq_ediv_of_nonneg _ (by decide)).symm

/-- The product of a sample and a gain of 16 bits. -/
theorem product_bounds {e : Entry} (hlow : -32767 ≤ e.sample) (hhigh : e.sample ≤ 32767) (hgain : e.gain ≤ 65535) :
    -2147385345 ≤ e.sample * e.gain ∧ e.sample * e.gain ≤ 2147385345 := by
  have hsample : e.sample.natAbs ≤ 32767 := by omega
  have habs : (e.sample * e.gain).natAbs ≤ 32767 * 65535 := by
    rw [Int.natAbs_mul, Int.natAbs_natCast]
    exact Nat.mul_le_mul hsample hgain
  omega

theorem term_bounds {e : Entry} (hlow : -32767 ≤ e.sample) (hhigh : e.sample ≤ 32767) (hgain : e.gain ≤ 65535) :
    -131066 ≤ term e ∧ term e ≤ 131066 := by
  obtain ⟨hmin, hmax⟩ := product_bounds hlow hhigh hgain
  unfold term
  omega

theorem term_of_unit_gain {e : Entry} (h : e.gain = 16384) : term e = e.sample := by
  unfold term
  rw [h]
  omega

theorem term_of_zero_gain {e : Entry} (h : e.gain = 0) : term e = 0 := by
  unfold term
  rw [h]
  omega

theorem sumTerms_cons (e : Entry) (es : List Entry) : sumTerms (e :: es) = term e + sumTerms es := by
  simp [sumTerms]

/-! ## The ducked output (07 R128) -/

/-- A value scaled by d over 32768 and rounded lies between 0 and the value itself. -/
theorem scaled_natAbs_le (b : Int) {d : Nat} (hd : d ≤ 32768) : ((b * d + 16384) / 32768).natAbs ≤ b.natAbs := by
  have hd' : (d : Int) ≤ 32768 := by omega
  obtain hb | hb := Int.le_total 0 b
  · have hlow : 0 ≤ b * d := Int.mul_nonneg hb (Int.natCast_nonneg d)
    have hhigh : b * d ≤ b * 32768 := Int.mul_le_mul_of_nonneg_left hd' hb
    omega
  · have hlow : b * 32768 ≤ b * d := Int.mul_le_mul_of_nonpos_left hb hd'
    have hhigh : b * d ≤ 0 := Int.mul_nonpos_of_nonpos_of_nonneg hb (Int.natCast_nonneg d)
    omega

theorem duckedOut_eq_fdiv (b c : Int) (d : Nat) : duckedOut b c d = c + Int.fdiv (b * d + 16384) 32768 :=
  congrArg (c + ·) (Int.fdiv_eq_ediv_of_nonneg _ (by decide)).symm

theorem duckedOut_of_full (b c : Int) : duckedOut b c 32768 = c + b := by
  unfold duckedOut
  omega

theorem duckedOut_sub_natAbs_le (b c : Int) {d : Nat} (hd : d ≤ 32768) : (duckedOut b c d - c).natAbs ≤ b.natAbs := by
  have hscaled := scaled_natAbs_le b hd
  unfold duckedOut
  omega

/-- Settles O42: a division rounded down after half the divisor is added rounds to the nearest, and the bounds follow from those of the
product. -/
theorem mixArithmeticIsRounded : Obligations.MixArithmeticIsRounded := by
  refine ⟨fun e hlow hhigh hgain => ?term, fun e es ch => ⟨sumTerms_cons e es, rfl⟩, by decide, by decide, fun b c d hd => ?ducked⟩
  case term =>
    obtain ⟨hmin, hmax⟩ := product_bounds hlow hhigh hgain
    obtain ⟨htmin, htmax⟩ := term_bounds hlow hhigh hgain
    exact ⟨term_eq_fdiv e, hmin, hmax, htmin, htmax, term_of_unit_gain, term_of_zero_gain⟩
  case ducked =>
    have hducked := duckedOut_sub_natAbs_le b c hd
    exact ⟨duckedOut_eq_fdiv b c d, duckedOut_of_full b c, hducked, fun _ _ => by omega⟩

end Sys2Proof.Machine
end

section
/-! PROOFS. The end of a mix window (07 R131): what it writes to each channel's items, and that it reaches nothing else but the notices. -/

namespace Sys2Proof.Machine

/-! ## One channel (07 R131) -/

/-- A channel's items after the end of a window: the gain trimmed where the trim conditions hold, the tally 0. -/
def windowEnded (ch : Channel) (m : Mix) : Mix :=
  { m with master := if needsTrim ch m then trimmedGain ch.config.floorGain m.master else m.master, tally := 0 }

theorem needsTrim_iff (ch : Channel) (m : Mix) :
    needsTrim ch m = true ↔ ch.state ≠ .emergency ∧ 8 ≤ m.tally ∧ ch.config.floorGain < m.master := by
  simp [needsTrim, and_assoc]

/-- A cleared tally asks for no trim, so the end of a window taken twice is one. -/
theorem windowEnded_idem (ch : Channel) (m : Mix) : windowEnded ch (windowEnded ch m) = windowEnded ch m := by
  simp [windowEnded, needsTrim]

/-- The end of a window writes one channel's items, with a notice where it trims. -/
theorem endWindowFor_cases (c : ChanNo) (s : State) :
    endWindowFor c s = s.updMix c (windowEnded (s.channel c))
      ∨ ∃ d, endWindowFor c s = queueNotice .channelTrimmed (.channel c) d (s.updMix c (windowEnded (s.channel c))) := by
  have hwrite : ∀ f : Mix → Mix, f (s.mix.get c) = windowEnded (s.channel c) (s.mix.get c) →
      s.updMix c f = s.updMix c (windowEnded (s.channel c)) := fun f hf => by
    simp only [State.updMix, Table.upd, hf]
  unfold endWindowFor
  dsimp only
  split
  · next htrim =>
    rw [hwrite _ (by simp [windowEnded, htrim])]
    exact .inr ⟨_, rfl⟩
  · next hkeep =>
    rw [hwrite _ (by simp [windowEnded, hkeep])]
    exact .inl rfl

theorem endWindowFor_mix (c : ChanNo) (s : State) : (endWindowFor c s).mix = s.mix.upd c (windowEnded (s.channel c)) := by
  obtain h | ⟨d, h⟩ := endWindowFor_cases c s <;> rw [h] <;> rfl

/-- Nothing but the mix engine's items and the ports differs. -/
def MixOnly (s t : State) : Prop := SameButPorts { s with mix := t.mix } t

theorem MixOnly.refl (s : State) : MixOnly s s := rfl

theorem MixOnly.trans {s t u : State} (h : MixOnly s t) (k : MixOnly t u) : MixOnly s u := by
  have hk := congrArg (fun x : State => { x with desk := s.desk, transmitter := s.transmitter, operations := s.operations }) k
  have hh := congrArg (fun x : State => { x with mix := u.mix }) h
  exact hk.trans hh

theorem MixOnly.channels {s t : State} (h : MixOnly s t) : t.channels = s.channels := (congrArg State.channels h :)

theorem endWindowFor_mixOnly (c : ChanNo) (s : State) : MixOnly s (endWindowFor c s) := by
  obtain h | ⟨d, h⟩ := endWindowFor_cases c s <;> rw [h] <;> rfl

/-! ## Every channel (07 R131) -/

/-- What the end of a window does at a list of channels: each one listed is ended once, and only the items and the notice queues differ. -/
structure WindowsEnded (cs : List ChanNo) (s t : State) : Prop where
  mix : ∀ k, t.mix.get k = if k ∈ cs then windowEnded (s.channel k) (s.mix.get k) else s.mix.get k
  frame : MixOnly s t

theorem foldl_endWindowFor_ended (cs : List ChanNo) (s : State) : WindowsEnded cs s (cs.foldl (fun t c => endWindowFor c t) s) := by
  induction cs generalizing s with
  | nil => exact ⟨fun k => by simp, MixOnly.refl s⟩
  | cons c rest ih =>
    obtain ⟨hmix, hframe⟩ := ih (endWindowFor c s)
    have hstep := endWindowFor_mixOnly c s
    have hchannel : ∀ k, (endWindowFor c s).channel k = s.channel k := fun k => congrArg (Table.get · k) hstep.channels
    refine ⟨fun k => ?_, hstep.trans hframe⟩
    rw [List.foldl_cons, hmix, hchannel, endWindowFor_mix, Table.get_upd]
    by_cases hk : c = k
    · subst hk
      simp [windowEnded_idem]
    · simp [hk, Ne.symm hk]

theorem takeWindowEnd_mix (s : State) (k : ChanNo) : (takeWindowEnd s).mix.get k = windowEnded (s.channel k) (s.mix.get k) := by
  simp only [takeWindowEnd, (foldl_endWindowFor_ended (every 12) s).mix, if_pos (mem_every k)]

theorem takeWindowEnd_channel (s : State) (k : ChanNo) : (takeWindowEnd s).channel k = s.channel k := by
  simp only [takeWindowEnd, State.channel, (foldl_endWindowFor_ended (every 12) s).frame.channels]

theorem takeWindowEnd_frame (s : State) : SameButPorts { s with window := 0, mix := (takeWindowEnd s).mix } (takeWindowEnd s) := by
  have hframe := (foldl_endWindowFor_ended (every 12) s).frame
  have hwindow := congrArg (fun x : State => { x with window := 0 }) hframe
  exact hwindow

theorem exec_mixWindowEnd {s : State} (hrun : s.phase = .running) (hdue : 4000 ≤ s.window) :
    exec .mixWindowEnd s = .next (takeWindowEnd s) :=
  congrArg Host.Outcome.next (if_pos (by simp [isRunning, windowDue, hrun, hdue]))

/-- Settles O41: the window's end is a fold over the channels, each of which is ended once by its own record and items. -/
theorem windowEndTrims : Obligations.WindowEndTrims := by
  intro s hrun hdue
  refine ⟨_, exec_mixWindowEnd hrun hdue, rfl, fun c => ?_, takeWindowEnd_frame s⟩
  rw [takeWindowEnd_mix]
  simp only [windowEnded, needsTrim_iff]
  rfl

end Sys2Proof.Machine
end

section
/-! PROOFS. What leaves the signal path alone (06, 07): the channels' records, the mix engine's items, the presence records, the guide links and
the output samples stand under the racks, the roster's records, the store, the read path and emergency's players. -/

namespace Sys2Proof.Machine

/-- The signal path stands: the channels, the mix engine's items, presence, guide links and output samples are as before. It unfolds for simp, so
that a lemma about an operation rewrites each of these fields. -/
@[simp] abbrev SameSignals (s t : State) : Prop :=
  t.channels = s.channels ∧ t.mix = s.mix ∧ t.presence = s.presence ∧ t.links = s.links ∧ t.outNext = s.outNext ∧ t.outNow = s.outNow

theorem SameSignals.trans {s t u : State} (h : SameSignals s t) (k : SameSignals t u) : SameSignals s u := by
  simp_all

/-- A fold of steps that each leave the signal path leaves it. -/
theorem foldl_signals {α : Type} {f : State → α → State} (h : ∀ s a, SameSignals s (f s a)) (l : List α) (s : State) :
    SameSignals s (l.foldl f s) :=
  List.foldlRecOn (motive := SameSignals s) l f (by simp) fun t ht a _ => ht.trans (h t a)

/-- Whatever else a frame lets differ, it holds the signal path when it names none of its fields. -/
theorem SameButPorts.signals {s t : State} (h : SameButPorts s t) : SameSignals s t :=
  ⟨(congrArg State.channels h :), (congrArg State.mix h :), (congrArg State.presence h :), (congrArg State.links h :),
    (congrArg State.outNext h :), (congrArg State.outNow h :)⟩

theorem FleetAndSlotsOnly.signals {s t : State} (h : FleetAndSlotsOnly s t) : SameSignals s t := (SameButPorts.signals h :)

theorem OrdersOnly.signals {s t : State} (h : OrdersOnly s t) : SameSignals s t := (SameButPorts.signals h :)

theorem ArbiterOnly.signals {r : RackNo} {s t : State} (h : ArbiterOnly r s t) : SameSignals s t := by
  rw [← h.frame]
  simp

/-! ## Ports and notices (11) -/

@[simp] theorem queueNotice_signals (k : NoticeKind) (j : Subject) (d : Detail) (s : State) : SameSignals s (queueNotice k j d s) :=
  (queueNotice_fleetOnly k j d s).fleetAndSlots.signals

@[simp] theorem answerPort_signals (p : PortId) (a : Answer) (s : State) : SameSignals s (answerPort p a s) :=
  (answerPort_sameButPorts p a s).signals

@[simp] theorem keepWaiting_signals (p : PortId) (s : State) : SameSignals s (keepWaiting p s) :=
  (updPort_sameButPorts p _ s).signals

/-! ## The roster (01, 04, 05) -/

@[simp] theorem changeSlot_signals (i : SlotIx) (f : Slot → Slot) (s : State) : SameSignals s (changeSlot i f s) :=
  (changeSlot_fleetAndSlotsOnly i f s).signals

@[simp] theorem readyAppend_signals (u : UnitNo) (s : State) : SameSignals s (readyAppend u s) := by
  simp [readyAppend, armCheck]

@[simp] theorem readyPush_signals (u : UnitNo) (s : State) : SameSignals s (readyPush u s) := by
  simp [readyPush, armCheck]

@[simp] theorem readyRemove_signals (u : UnitNo) (s : State) : SameSignals s (readyRemove u s) := by
  simp [readyRemove]

@[simp] theorem readyRemoveOccupant_signals (o : Occupant) (s : State) : SameSignals s (readyRemoveOccupant o s) := by
  cases o <;> simp [readyRemoveOccupant]

@[simp] theorem judgeUnit_signals (u : UnitNo) (s : State) : SameSignals s (judgeUnit u s) :=
  (judgeUnit_fleetAndSlotsOnly u s).signals

@[simp] theorem enrol_signals (u : UnitNo) (kind : UnitKind) (serial : BitVec 32) (marks : Byte) (cycles : Nat) (s : State) :
    SameSignals s (enrol u kind serial marks cycles s) := by
  unfold enrol
  dsimp only
  split <;> simp [placeNew]

@[simp] theorem applyReports_signals (rs : List UnitReport) (s : State) : SameSignals s (applyReports rs s).2 :=
  (applyReports_telemetryKept rs s).frame.fleetAndSlots.signals

@[simp] theorem enqueueOrder_signals (u : UnitNo) (air : Nat) (s : State) : SameSignals s (enqueueOrder u air s) :=
  (enqueueOrder_ordersOnly u air s).signals

@[simp] theorem park_signals (u : UnitNo) (s : State) : SameSignals s (park u s) := enqueueOrder_signals u 0 s

@[simp] theorem queueEmpty_signals (n : PendingEmpty) (s : State) : SameSignals s (queueEmpty n s) := by
  cases n <;> simp [queueEmpty]

@[simp] theorem clearLease_signals (u : UnitNo) (s : State) : SameSignals s (clearLease u s) := by
  obtain ⟨groups, h⟩ := clearLease_eq u s
  simp [h]

@[simp] theorem judgeDeadlines_signals (s : State) : SameSignals s (judgeDeadlines s) :=
  (judgeDeadlines_judged s).frame.fleetAndSlots.signals

@[simp] theorem plainRemoval_signals (u : UnitNo) (s : State) : SameSignals s (plainRemoval u s) := by
  simp [plainRemoval]

@[simp] theorem issueRemoval_signals (u : UnitNo) (s : State) : SameSignals s (issueRemoval u s) := by
  simp [issueRemoval]

@[simp] theorem forcedRemoval_signals (u : UnitNo) (i : SlotIx) (was : SlotState) (s : State) :
    SameSignals s (forcedRemoval u i was s) := by
  simp [forcedRemoval]

@[simp] theorem issueHead_signals (g : Option GroupNo) (c : ChanNo) (s : State) : SameSignals s (issueHead g c s).1 := by
  unfold issueHead
  split
  · simp
  · exact (issueTo_issued _ g c s).frame.signals

@[simp] theorem releaseMic_signals (gr : Group) (s : State) : SameSignals s (releaseMic gr s) := by
  unfold releaseMic
  split <;> simp

@[simp] theorem parkMic_signals (gr : Group) (s : State) : SameSignals s (parkMic gr s) := by
  unfold parkMic
  split <;> simp

@[simp] theorem capDeadlines_signals (g : GroupNo) (s : State) : SameSignals s (capDeadlines g s) := by
  simp [capDeadlines]

@[simp] theorem moveMember_signals (g : GroupNo) (c : ChanNo) (air : Nat) (t : FateCounts × State) (u : UnitNo) :
    SameSignals t.2 (moveMember g c air t u).2 := by
  unfold moveMember
  split <;> simp [countOrder]

@[simp] theorem moveMic_signals (mic : Option UnitNo) (air : Nat) (t : FateCounts × State) : SameSignals t.2 (moveMic mic air t).2 := by
  cases mic <;> simp [moveMic, countOrder]

theorem foldl_moveMember_signals (g : GroupNo) (c : ChanNo) (air : Nat) (us : List UnitNo) (t : FateCounts × State) :
    SameSignals t.2 (us.foldl (moveMember g c air) t).2 :=
  List.foldlRecOn (motive := fun x : FateCounts × State => SameSignals t.2 x.2) us _ (by simp)
    fun x hx u _ => hx.trans (moveMember_signals g c air x u)

@[simp] theorem restartMap_signals (restart : Bool) (s : State) : SameSignals s (restartMap restart s) := by
  cases restart <;> simp [restartMap]

@[simp] theorem reportLostGuide_signals (before : State) (g : GroupNo) (s : State) : SameSignals s (reportLostGuide before g s) := by
  unfold reportLostGuide
  dsimp only
  split <;> simp

/-! ## The racks (02, 03) -/

@[simp] theorem evaluate_signals (r : RackNo) (s : State) : SameSignals s (evaluate r s) := (evaluate_arbiterOnly r s).signals

@[simp] theorem applyBudget_signals (r : RackNo) (budget : Nat) (s : State) : SameSignals s (applyBudget r budget s) :=
  (applyBudget_arbiterOnly r budget s).signals

@[simp] theorem giveBack_signals (i : SlotIx) (s : State) : SameSignals s (giveBack i s) := by
  simp [giveBack]

@[simp] theorem leaveArbiter_signals (i : SlotIx) (s : State) : SameSignals s (leaveArbiter i s) := by
  unfold leaveArbiter
  split <;> simp

@[simp] theorem joinWait_signals (i : SlotIx) (ph : Phase) (s : State) : SameSignals s (joinWait i ph s) := by
  simp [joinWait]

@[simp] theorem enterTopoff_signals (i : SlotIx) (s : State) : SameSignals s (enterTopoff i s) := by
  unfold enterTopoff
  dsimp only
  split <;> simp

@[simp] theorem setCharge_signals (i : SlotIx) (c : Nat) (s : State) : SameSignals s (setCharge i c s) := by
  unfold setCharge writeCharge
  split <;> simp

@[simp] theorem setBatteryFault_signals (o : Occupant) (b : Bool) (s : State) : SameSignals s (setBatteryFault o b s) := by
  cases o <;> simp [setBatteryFault]

@[simp] theorem countCycle_signals (o : Occupant) (s : State) : SameSignals s (countCycle o s) := by
  cases o <;> simp [countCycle]

@[simp] theorem countReading_signals (i : SlotIx) (rd : Reading) (s : State) : SameSignals s (countReading i rd s) := by
  unfold countReading
  dsimp only
  split <;> simp

@[simp] theorem settleCharged_signals (i : SlotIx) (s : State) : SameSignals s (settleCharged i s) := by
  unfold settleCharged
  split
  · split <;> simp
  · simp

@[simp] theorem enterFault_signals (i : SlotIx) (cause : Monitors) (s : State) : SameSignals s (enterFault i cause s) := by
  unfold enterFault
  dsimp only
  split <;> simp

@[simp] theorem endTopoff_signals (i : SlotIx) (s : State) : SameSignals s (endTopoff i s) := by
  unfold endTopoff
  dsimp only
  split <;> simp

@[simp] theorem changePhase_signals (i : SlotIx) (rd : Reading) (s : State) : SameSignals s (changePhase i rd s) := by
  unfold changePhase
  dsimp only
  repeat' split
  all_goals simp

@[simp] theorem monitoredReading_signals (i : SlotIx) (rd : Reading) (s : State) : SameSignals s (monitoredReading i rd s) := by
  unfold monitoredReading
  dsimp only
  split <;> simp

@[simp] theorem handRemoval_signals (i : SlotIx) (sl : Slot) (mic : Bool) (s : State) : SameSignals s (handRemoval i sl mic s) := by
  unfold handRemoval
  repeat' split
  all_goals simp

@[simp] theorem removal_signals (i : SlotIx) (s : State) : SameSignals s (removal i s) := by
  unfold removal
  dsimp only
  split <;> simp

@[simp] theorem takeReading_signals (i : SlotIx) (rd : Reading) (s : State) : SameSignals s (takeReading i rd s) := by
  unfold takeReading
  dsimp only
  repeat' split
  all_goals simp

@[simp] theorem displace_signals (j : SlotIx) (u : UnitNo) (s : State) : SameSignals s (displace j u s) := by
  unfold displace
  dsimp only
  split <;> simp

@[simp] theorem standIn_signals (u : UnitNo) (i : SlotIx) (s : State) : SameSignals s (standIn u i s) := by
  simp [standIn]

@[simp] theorem looseArrival_signals (u : UnitNo) (i : SlotIx) (s : State) : SameSignals s (looseArrival u i s) := by
  simp [looseArrival]

@[simp] theorem reportStranger_signals (i : SlotIx) (o : Occupant) (s : State) : SameSignals s (reportStranger i o s) := by
  unfold reportStranger
  dsimp only
  repeat' split
  all_goals simp

@[simp] theorem settlePrevious_signals (prev now : Occupant) (s : State) : SameSignals s (settlePrevious prev now s) := by
  unfold settlePrevious
  repeat' split
  all_goals simp

@[simp] theorem relatch_signals (u : UnitNo) (i : SlotIx) (s : State) : SameSignals s (relatch u i s) := by
  unfold relatch
  split <;> simp

@[simp] theorem returnSlot_signals (i : SlotIx) (rd : Reading) (s : State) : SameSignals s (returnSlot i rd s) := by
  unfold returnSlot
  dsimp only
  repeat' split
  all_goals simp

@[simp] theorem returnRack_signals (r : RackNo) (rds : Table Reading 16) (s : State) : SameSignals s (returnRack r rds s) :=
  SameSignals.trans (by simp) (foldl_signals (fun t k => returnSlot_signals (slotIx r k) (rds.get k) t) (every 16) _)

@[simp] theorem notePoll_signals (r : RackNo) (answered : Bool) (s : State) : SameSignals s (notePoll r answered s) := by
  unfold notePoll
  split <;> simp

@[simp] theorem restartFault_signals (i : SlotIx) (s : State) : SameSignals s (restartFault i s) := by
  simp [restartFault]

@[simp] theorem applyCharge_signals (c : ChargeSettings) (s : State) : SameSignals s (applyCharge c s) := by
  have hevaluated := foldl_signals (fun t r => evaluate_signals r t) (every 4)
  have hjudged := foldl_signals (fun t u => judgeUnit_signals u t) (every 256)
  unfold applyCharge
  dsimp only
  repeat' split
  all_goals simp [hevaluated, hjudged]

/-! ## The read path and emergency's players (08, 09, 10) -/

@[simp] theorem meetReads_signals (s : State) : SameSignals s (meetReads s) := by
  unfold meetReads
  split <;> simp

@[simp] theorem placeRead_signals (p : PlayerNo) (s : State) : SameSignals s (placeRead p s) := by
  unfold placeRead
  split <;> simp

@[simp] theorem giveSample_signals (p : PlayerNo) (s : State) : SameSignals s (giveSample p s) := by
  unfold giveSample
  dsimp only
  split
  · split
    · simp
    · split <;> simp
  · simp

@[simp] theorem giveSamples_signals (s : State) : SameSignals s (giveSamples s) :=
  foldl_signals (fun t p => giveSample_signals p t) (every 6) s

/-- Emergency's players are not written to their channels' records (09 R166). -/
@[simp] theorem allocate_emergency_signals (p : PlayerNo) (clip loops : Nat) (cs : List ChanNo) (s : State) :
    SameSignals s (allocate p clip .emergency loops cs s) := by
  simp [allocate]

@[simp] theorem assignTo_signals (c : ChanNo) (v : Option PlayerNo) (s : State) : SameSignals s (assignTo c v s) := by
  cases v <;> simp [assignTo, joinPlayer, setAssigned]

@[simp] theorem assignEmergency_signals (c : ChanNo) (s : State) : SameSignals s (assignEmergency c s) := assignTo_signals c _ s

@[simp] theorem unassignEmergency_signals (c : ChanNo) (s : State) : SameSignals s (unassignEmergency c s) := by
  unfold unassignEmergency
  split <;> simp [setAssigned, leavePlayer]

@[simp] theorem servePlayer_signals (p : PlayerNo) (l : Lang) (clip : Nat) (s : State) : SameSignals s (servePlayer p l clip s) := by
  simp [servePlayer, setServes]

theorem serveDefault_signals (s : State) : SameSignals s (serveDefault s) := by
  unfold serveDefault
  repeat' split
  all_goals simp

theorem serveLanguage_signals (l : Lang) (s : State) : SameSignals s (serveLanguage l s) := by
  unfold serveLanguage
  split <;> simp

@[simp] theorem servePlayers_signals (s : State) : SameSignals s (servePlayers s) :=
  (serveDefault_signals s).trans (foldl_signals (fun t l => serveLanguage_signals l t) _ _)

@[simp] theorem moveChannels_signals (p : PlayerNo) (test : State → ChanNo → Bool) (s : State) :
    SameSignals s (moveChannels p test s) :=
  foldl_signals (fun t c => by simp) _ s

@[simp] theorem emergencySeal_signals (clip : Clip) (s : State) : SameSignals s (emergencySeal clip s) := by
  unfold emergencySeal
  repeat' split
  all_goals simp

@[simp] theorem reassignChannel_signals (c : ChanNo) (before : ChannelState) (s : State) :
    SameSignals s (reassignChannel c before s) := by
  unfold reassignChannel
  split <;> simp

/-! ## The store (08) -/

@[simp] theorem setBlock_signals (b : BlockNo) (st : BlockState) (s : State) : SameSignals s (setBlock b st s) := by
  unfold setBlock
  split <;> simp

@[simp] theorem storeFault_signals (cause clip : Nat) (b : BlockNo) (s : State) : SameSignals s (storeFault cause clip b s) :=
  queueNotice_signals _ _ _ s

@[simp] theorem failBlocks_signals (clip : Nat) (bs : List BlockNo) (s : State) : SameSignals s (failBlocks clip bs s) :=
  foldl_signals (fun t b => by simp [failBlock]) bs s

@[simp] theorem beginErasing_signals (s : State) : SameSignals s (beginErasing s) := by
  simp [beginErasing]

@[simp] theorem endBatch_signals (outcome : SaveOutcome) (s : State) : SameSignals s (endBatch outcome s) := by
  unfold endBatch
  dsimp only
  split
  · split <;> simp [reportErased]
  · simp

@[simp] theorem leaveClip_signals (b : BlockNo) (s : State) : SameSignals s (leaveClip b s) := by
  simp [leaveClip, countErase]

@[simp] theorem stopErase_signals (s : State) : SameSignals s (stopErase s) := by
  unfold stopErase
  split <;> simp

@[simp] theorem programFor_signals (q : Req) (job : ProgramJob) (cells : List (Nat × Byte)) (s : State) :
    SameSignals s (programFor q job cells s).1 := by
  simp [programFor, startProgram]

@[simp] theorem appendTo_signals (q : Req) (c : Clip) (last : BlockNo) (codes : List Byte) (s : State) :
    SameSignals s (appendTo q c last codes s).1 := by
  unfold appendTo
  repeat' split
  all_goals simp

@[simp] theorem applyJob_signals (good : Bool) (job : ProgramJob) (s : State) : SameSignals s (applyJob good job s) := by
  unfold applyJob
  repeat' split
  all_goals simp [updClip]

@[simp] theorem answerJob_signals (port : Option PortId) (a : Answer) (s : State) : SameSignals s (answerJob port a s) := by
  cases port <;> simp [answerJob]

@[simp] theorem leaveProgramming_signals (s : State) : SameSignals s (leaveProgramming s) := by
  unfold leaveProgramming
  dsimp only
  split <;> simp

@[simp] theorem joinBatch_signals (b : BlockNo) (s : State) : SameSignals s (joinBatch b s) := by
  unfold joinBatch
  repeat' split
  all_goals simp

@[simp] theorem meetWaiters_signals (s : State) : SameSignals s (meetWaiters s) := by
  unfold meetWaiters
  split <;> simp

@[simp] theorem failMark_signals (b : BlockNo) (s : State) : SameSignals s (failMark b s) := storeFault_signals _ _ b s

@[simp] theorem endMarks_signals (faults : List (Nat × Byte)) (s : State) : SameSignals s (endMarks faults s) := by
  have hmarks := foldl_signals (fun t (e : BatchEntry) => setBlock_signals e.block .dirty t) s.store.batch
  have hfails := foldl_signals fun t b => failMark_signals b t
  simp [endMarks, hmarks, hfails]

@[simp] theorem judgeErase_signals (good : Bool) (b : BlockNo) (s : State) : SameSignals s (judgeErase good b s) := by
  cases good <;> simp [judgeErase, countErase]

@[simp] theorem endErase_signals (b : BlockNo) (left : List (Nat × Byte)) (s : State) : SameSignals s (endErase b left s) := by
  unfold endErase
  dsimp only
  split <;> simp [programRecord, nextBlock, leaveBatch]

@[simp] theorem completeSuspension_signals (s : State) : SameSignals s (completeSuspension s) := by
  unfold completeSuspension
  dsimp only
  split <;> simp

@[simp] theorem leaveMark_signals (b : BlockNo) (s : State) : SameSignals s (leaveMark b s) := by
  unfold leaveMark
  split <;> simp

@[simp] theorem dropEntries_signals (g : Fin 16) (s : State) : SameSignals s (dropEntries g s) := by
  have hfold := foldl_signals (fun t (e : BatchEntry) => leaveMark_signals e.block t) (s.store.batch.filter (isDropped g)) s
  unfold dropEntries
  dsimp only
  split <;> exact hfold

@[simp] theorem dropInHand_signals (s : State) : SameSignals s (dropInHand s) := by
  unfold dropInHand
  dsimp only
  repeat' split
  all_goals simp

@[simp] theorem dropUnkeyed_signals (g : Fin 16) (s : State) : SameSignals s (dropUnkeyed g s) := by
  unfold dropUnkeyed spoilDropped
  repeat' split
  all_goals simp

@[simp] theorem serveRead_signals (q : Fin 7) (s : State) : SameSignals s (serveRead q s) := by
  unfold serveRead
  dsimp only
  split <;> simp

@[simp] theorem serveRefill_signals (p : PlayerNo) (s : State) : SameSignals s (serveRefill p s) := by
  simp [serveRefill, freePath]

@[simp] theorem startSave_signals (f : SaveForm) (s : State) : SameSignals s (startSave f s) := by
  simp [startSave]

end Sys2Proof.Machine
end

section
/-! PROOFS. The law of a channel's gains (07 R119, R129, R131, R132) under the pool, the channel plan, emergency control, the frame and the
window. -/

namespace Sys2Proof.Machine

/-! ## One channel's gains -/

/-- The law of one channel's gains: the duck level and the duck are at most 32768, and the live master gain is 16384 in EMERGENCY and lies between
the smaller of floor and configured gain and the configured gain otherwise. -/
def GainsLawful (ch : Channel) (m : Mix) : Prop :=
  ch.config.duckLevel ≤ 32768 ∧ m.duck ≤ 32768
    ∧ if ch.state = .emergency then m.master = 16384
      else min ch.config.floorGain ch.config.masterGain ≤ m.master ∧ m.master ≤ ch.config.masterGain

theorem gainsHold_iff (s : State) : gainsHold s ↔ ∀ c, GainsLawful (s.channel c) (s.mix.get c) := Iff.rfl

/-- A channel's items after its state goes from one to another: entry to EMERGENCY fixes the gain, exit from it restores the configured one, and
both clear the tally (07 R132). -/
def mixDecided (old new : ChannelState) (f : ChannelConfig) (m : Mix) : Mix :=
  if new = .emergency ∧ old ≠ .emergency then { m with master := 16384, tally := 0 }
  else if old = .emergency ∧ new ≠ .emergency then { m with master := f.masterGain, tally := 0 }
  else m

theorem mixDecided_gainsLawful {ch ch' : Channel} {m : Mix} (h : GainsLawful ch m) (hconfig : ch'.config = ch.config) :
    GainsLawful ch' (mixDecided ch.state ch'.state ch.config m) := by
  obtain ⟨hlevel, hduck, hmaster⟩ := h
  unfold GainsLawful mixDecided
  rw [hconfig]
  by_cases hnew : ch'.state = .emergency
  · rw [if_pos hnew]
    by_cases hwas : ch.state = .emergency
    · rw [if_neg fun hentry => hentry.2 hwas, if_neg fun hexit => hexit.2 hnew]
      rw [if_pos hwas] at hmaster
      exact ⟨hlevel, hduck, hmaster⟩
    · rw [if_pos ⟨hnew, hwas⟩]
      exact ⟨hlevel, hduck, rfl⟩
  · rw [if_neg hnew, if_neg fun hentry => hnew hentry.1]
    by_cases hwas : ch.state = .emergency
    · rw [if_pos ⟨hwas, hnew⟩]
      exact ⟨hlevel, hduck, Nat.min_le_right _ _, Nat.le_refl _⟩
    · rw [if_neg fun hexit => hwas hexit.1]
      rw [if_neg hwas] at hmaster
      exact ⟨hlevel, hduck, hmaster⟩

theorem windowEnded_gainsLawful {ch : Channel} {m : Mix} (h : GainsLawful ch m) : GainsLawful ch (windowEnded ch m) := by
  obtain ⟨hlevel, hduck, hmaster⟩ := h
  refine ⟨hlevel, hduck, ?_⟩
  by_cases htrim : needsTrim ch m = true
  · obtain ⟨hstate, -, hfloor⟩ := (needsTrim_iff ch m).1 htrim
    simp only [windowEnded, htrim, if_true, if_neg hstate, trimmedGain] at hmaster ⊢
    omega
  · simp only [windowEnded, if_neg htrim]
    exact hmaster

/-- A step of the duck stays within the bound of the duck and its target. -/
theorem stepDuck_le {d target bound : Nat} (hd : d ≤ bound) (ht : target ≤ bound) : stepDuck d target ≤ bound := by
  unfold stepDuck
  split <;> omega

theorem duckTarget_le {ch : Channel} (h : ch.config.duckLevel ≤ 32768) (es : List Entry) : duckTarget ch es ≤ 32768 := by
  unfold duckTarget
  split
  · exact Nat.le_refl _
  · exact h

theorem mixAfter_gainsLawful {s : State} {c : ChanNo} (h : GainsLawful (s.channel c) (s.mix.get c)) (fi : FrameInput) :
    GainsLawful (s.channel c) (mixAfter s fi c) := by
  obtain ⟨hlevel, hduck, hmaster⟩ := h
  exact ⟨hlevel, stepDuck_le hduck (duckTarget_le hlevel _), hmaster⟩

/-- Set Channel's restart under a new configuration meets the law: in EMERGENCY the gain stands at 16384, else it is the configured one. -/
theorem restartMix_gainsLawful {ch : Channel} {m : Mix} {f : ChannelConfig} (h : GainsLawful ch m) (hf : f.duckLevel ≤ 32768) :
    GainsLawful { ch with config := f } (restartMix (ch.state == .emergency) f.masterGain m) := by
  obtain ⟨-, -, hmaster⟩ := h
  refine ⟨hf, ?_, ?_⟩
  · unfold restartMix
    split <;> exact Nat.le_refl _
  · by_cases hstate : ch.state = .emergency
    · rw [if_pos hstate] at hmaster
      simp only [restartMix, hstate, beq_self_eq_true, if_true]
      exact hmaster
    · simp only [restartMix, beq_eq_false_iff_ne.2 hstate, Bool.false_eq_true, if_false, if_neg hstate]
      exact ⟨Nat.min_le_right _ _, Nat.le_refl _⟩

/-! ## What the gains depend on -/

/-- What the law of the gains reads stands: the mix engine's items and each channel's configuration and state. -/
structure GainsKept (s t : State) : Prop where
  mix : t.mix = s.mix
  config : ∀ c, (t.channel c).config = (s.channel c).config
  state : ∀ c, (t.channel c).state = (s.channel c).state

theorem SameSignals.gainsKept {s t : State} (h : SameSignals s t) : GainsKept s t := by
  obtain ⟨hchannels, hmix, -⟩ := h
  exact ⟨hmix, fun c => by simp [State.channel, hchannels], fun c => by simp [State.channel, hchannels]⟩

theorem SameDecisions.gainsKept {s t : State} (h : SameDecisions s t) (hmix : t.mix = s.mix) : GainsKept s t :=
  ⟨hmix, fun c => (h c).1, fun c => (h c).2.2.1⟩

theorem GainsKept.gainsHold {s t : State} (h : GainsKept s t) (hs : gainsHold s) : gainsHold t := by
  obtain ⟨hmix, hconfig, hstate⟩ := h
  intro c
  have hc := hs c
  simpa only [hmix, hconfig, hstate] using hc

theorem gainsHold_of_signals {s t : State} (h : SameSignals s t) (hs : gainsHold s) : gainsHold t := h.gainsKept.gainsHold hs

/-- A fold of steps that each keep the gains lawful keeps them. -/
theorem foldl_gainsHold {α : Type} {f : State → α → State} (h : ∀ s a, gainsHold s → gainsHold (f s a)) (l : List α) {s : State}
    (hs : gainsHold s) : gainsHold (l.foldl f s) :=
  List.foldlRecOn l f hs fun t ht a _ => h t a ht

/-! ## The pool (09): no item of the mix engine is written -/

@[simp] theorem setHoldPlayer_mix (v : Option PlayerNo) (cs : List ChanNo) (s : State) : (setHoldPlayer v cs s).mix = s.mix := rfl

@[simp] theorem allocate_mix (p : PlayerNo) (clip : Nat) (o : Owner) (loops : Nat) (cs : List ChanNo) (s : State) :
    (allocate p clip o loops cs s).mix = s.mix := by
  unfold allocate
  dsimp only
  split <;> simp

@[simp] theorem clearPlayer_mix (p : PlayerNo) (s : State) : (clearPlayer p s).mix = s.mix := by
  unfold clearPlayer
  dsimp only
  split <;> simp

@[simp] theorem offerRounds_mix (n : Nat) (s : State) : (offerRounds n s).mix = s.mix := by
  induction n generalizing s with
  | zero => rfl
  | succ n ih =>
    unfold offerRounds
    split
    · rw [ih, allocate_mix]
    · rfl

@[simp] theorem offer_mix (s : State) : (offer s).mix = s.mix := offerRounds_mix 6 s

@[simp] theorem endPlay_mix (p : PlayerNo) (e : PlayEnd) (s : State) : (endPlay p e s).mix = s.mix := by
  unfold endPlay
  dsimp only
  split <;> simp

@[simp] theorem requestHold_mix (c : ChanNo) (clip : Nat) (s : State) : (requestHold c clip s).mix = s.mix := by
  unfold requestHold
  repeat' split
  all_goals simp [joinPlayer]

@[simp] theorem leaveHold_mix (c : ChanNo) (s : State) : (leaveHold c s).mix = s.mix := by
  unfold leaveHold
  dsimp only
  repeat' split
  all_goals simp [leavePlayer]

@[simp] theorem enterHold_mix (c : ChanNo) (s : State) : (enterHold c s).mix = s.mix := by
  unfold enterHold
  dsimp only
  split <;> simp

@[simp] theorem leaveForNewClip_mix (c : ChanNo) (s : State) : (leaveForNewClip c s).mix = s.mix := by
  simp [leaveForNewClip, setHoldClip]

@[simp] theorem reholdChannel_mix (c : ChanNo) (before : Channel) (s : State) : (reholdChannel c before s).mix = s.mix := by
  unfold reholdChannel
  dsimp only
  repeat' split
  all_goals simp

@[simp] theorem announce_mix (p : PlayerNo) (taken : Bool) (clip loops : Nat) (cs : List ChanNo) (s : State) :
    (announce p taken clip loops cs s).mix = s.mix := by
  cases taken <;> simp [announce]

theorem announce_decisions (p : PlayerNo) (taken : Bool) (clip loops : Nat) (cs : List ChanNo) (s : State) :
    SameDecisions s (announce p taken clip loops cs s) := by
  cases taken
  · exact allocate_decisions p clip .announce loops cs s
  · exact (clearPlayer_decisions p s).trans (allocate_decisions p clip .announce loops cs _)

theorem clearPlayer_gainsHold (p : PlayerNo) {s : State} (h : gainsHold s) : gainsHold (clearPlayer p s) :=
  ((clearPlayer_decisions p s).gainsKept (clearPlayer_mix p s)).gainsHold h

/-- A player cleared where a test holds. -/
theorem clearIf_gainsHold (b : Bool) (p : PlayerNo) {s : State} (h : gainsHold s) :
    gainsHold (if b = true then clearPlayer p s else s) := by
  cases b
  · exact h
  · exact clearPlayer_gainsHold p h

theorem endPlay_gainsHold (p : PlayerNo) (e : PlayEnd) {s : State} (h : gainsHold s) : gainsHold (endPlay p e s) :=
  ((endPlay_decisions p e s).gainsKept (endPlay_mix p e s)).gainsHold h

theorem endPlays_gainsHold (ps : List PlayerNo) {s : State} (h : gainsHold s) : gainsHold (endPlays ps s) :=
  foldl_gainsHold (fun _ p ht => endPlay_gainsHold p .completed ht) ps h

theorem announce_gainsHold (p : PlayerNo) (taken : Bool) (clip loops : Nat) (cs : List ChanNo) {s : State} (h : gainsHold s) :
    gainsHold (announce p taken clip loops cs s) :=
  ((announce_decisions p taken clip loops cs s).gainsKept (announce_mix p taken clip loops cs s)).gainsHold h

theorem offer_gainsHold {s : State} (h : gainsHold s) : gainsHold (offer s) :=
  ((offer_decisions s).gainsKept (offer_mix s)).gainsHold h

/-! ## Decisions (06 R110 to R116, 07 R132) -/

theorem leaveState_mix (c : ChanNo) (old new : ChannelState) (s : State) (k : ChanNo) :
    (leaveState c old new s).mix.get k =
      if c = k ∧ old = .emergency ∧ new ≠ .emergency then { s.mix.get k with master := (s.channel k).config.masterGain, tally := 0 }
      else s.mix.get k := by
  unfold leaveState
  split
  · next hhold => simp [hhold.1]
  · split
    · next hexit =>
      simp only [State.updMix_mix, unassignEmergency_signals, Table.get_upd, hexit, and_true, ne_eq, not_false_eq_true]
      split
      · next hk => rw [hk]
      · rfl
    · next hstays => rw [if_neg fun hexit => hstays hexit.2]

theorem enterState_mix (c : ChanNo) (old new : ChannelState) (s : State) (k : ChanNo) :
    (enterState c old new s).mix.get k =
      if c = k ∧ new = .emergency ∧ old ≠ .emergency then { s.mix.get k with master := 16384, tally := 0 } else s.mix.get k := by
  unfold enterState
  split
  · next hhold => simp [hhold.1]
  · split
    · next hentry =>
      simp only [State.updMix_mix, assignEmergency_signals, Table.get_upd, hentry, and_true, ne_eq, not_false_eq_true]
    · next hstays => rw [if_neg fun hentry => hstays hentry.2]

theorem decideChannel_mix (c : ChanNo) (s : State) (k : ChanNo) :
    (decideChannel c s).mix.get k =
      if c = k then mixDecided (s.channel k).state (decidedState s k) (s.channel k).config (s.mix.get k) else s.mix.get k := by
  unfold decideChannel
  rw [enterState_mix, leaveState_mix]
  by_cases hk : c = k
  · subst hk
    simp only [true_and, if_true, State.updChannel_channel_self, State.updChannel_mix, mixDecided]
    split
    · next hentry => rw [if_neg fun hexit => hentry.2 hexit.1]
    · rfl
  · simp [hk]

theorem decideChannel_gainsHold (c : ChanNo) {s : State} (h : gainsHold s) : gainsHold (decideChannel c s) := by
  refine (gainsHold_iff _).2 fun k => ?_
  obtain ⟨hconfig, -, hstate, -⟩ := decideChannel_channel c s k
  rw [decideChannel_mix]
  by_cases hk : c = k
  · subst hk
    rw [if_pos rfl] at hstate ⊢
    rw [← hstate]
    exact mixDecided_gainsLawful (h c) hconfig
  · rw [if_neg hk] at hstate ⊢
    have hlaw := h k
    simpa only [GainsLawful, hconfig, hstate] using hlaw

theorem decideEach_gainsHold (cs : List ChanNo) {s : State} (h : gainsHold s) : gainsHold (decideEach cs s) :=
  foldl_gainsHold (fun _ c ht => decideChannel_gainsHold c ht) cs h

theorem decideAll_gainsHold {s : State} (h : gainsHold s) : gainsHold (decideAll s) := decideEach_gainsHold _ h

/-- A channel's bound group is not read by the law of its gains. -/
theorem setBound_gainsKept (c : ChanNo) (g : Option GroupNo) (s : State) : GainsKept s (setBound c g s) := by
  refine ⟨rfl, fun k => ?_, fun k => ?_⟩
  all_goals
    rw [setBound, State.updChannel_channel]
    split <;> rfl

theorem bindChannel_gainsHold (c : ChanNo) (g : GroupNo) {s : State} (h : gainsHold s) : gainsHold (bindChannel c g s) :=
  decideChannel_gainsHold c ((setBound_gainsKept c (some g) s).gainsHold h)

theorem unbindChannel_gainsHold (c : ChanNo) {s : State} (h : gainsHold s) : gainsHold (unbindChannel c s) :=
  decideChannel_gainsHold c ((setBound_gainsKept c none s).gainsHold h)

/-! ## Set Channel and guide links (06 R104, R109) -/

theorem writeChannel_gainsHold (c : ChanNo) {f : ChannelConfig} (hf : f.duckLevel ≤ 32768) {s : State} (h : gainsHold s) :
    gainsHold (writeChannel c f s) := by
  refine (gainsHold_iff _).2 fun k => ?_
  simp only [writeChannel, State.updMix_channel, State.updMix_mix, State.updChannel_mix, State.updChannel_channel, Table.get_upd]
  by_cases hk : c = k
  · subst hk
    simp only [if_true]
    exact restartMix_gainsLawful (h c) hf
  · simp only [if_neg hk]
    exact h k

theorem setChannelTo_gainsHold (c : ChanNo) {f : ChannelConfig} (hf : f.duckLevel ≤ 32768) {s : State} (h : gainsHold s) :
    gainsHold (setChannelTo c f s) := by
  have hdecided := decideChannel_gainsHold c (writeChannel_gainsHold c hf h)
  have hheld := ((reholdChannel_decisions c (s.channel c) _).gainsKept (reholdChannel_mix c _ _)).gainsHold hdecided
  exact gainsHold_of_signals (reassignChannel_signals c _ _) hheld

theorem formConfig_duckLevel_le (f : ChannelForm) (mode : ChannelMode) : (formConfig f mode).duckLevel ≤ 32768 := Nat.min_le_right _ _

theorem takeLinks_gainsHold (rs : List LinkReport) {s : State} (h : gainsHold s) : gainsHold (takeLinks rs s) := by
  have hlinked : gainsHold { s with links := applyLinks rs s.links } := h
  exact decideEach_gainsHold _ (gainsHold_of_signals (foldl_signals (fun t g => reportLostGuide_signals s g t) _ _) hlinked)

/-! ## Emergency control (10) -/

theorem stopPlayers_gainsHold {s : State} (h : gainsHold s) : gainsHold (stopPlayers s) :=
  foldl_gainsHold (fun t p ht => clearIf_gainsHold (isBusy (t.player p)) p ht) (every 6) h

theorem raiseChannels_gainsHold (cause : RaiseCause) {s : State} (h : gainsHold s) : gainsHold (raiseChannels cause s) := by
  have hraised : gainsHold (setRaised (some ⟨cause, s.siteTime⟩) s) := h
  exact decideAll_gainsHold (gainsHold_of_signals (servePlayers_signals _) (stopPlayers_gainsHold hraised))

theorem raise_gainsHold (cause : RaiseCause) {s : State} (h : gainsHold s) : gainsHold (raise cause s) := by
  have hreported : gainsHold (reportRaised cause (raiseChannels cause s)) :=
    gainsHold_of_signals (queueNotice_signals _ _ _ _) (raiseChannels_gainsHold cause h)
  exact gainsHold_of_signals (foldl_signals (fun _ _ => queueNotice_signals _ _ _ _) (preemptedPlayers s) _) hreported

theorem raiseByInput_gainsHold {s : State} (h : gainsHold s) : gainsHold (raiseByInput s) := by
  unfold raiseByInput
  split
  · exact raise_gainsHold _ h
  · exact h

theorem freePlayers_gainsHold {s : State} (h : gainsHold s) : gainsHold (freePlayers s) := by
  have hcleared := foldl_gainsHold (fun t p ht => clearIf_gainsHold (ownedBy .emergency (t.player p)) p ht) (every 6) h
  rw [freePlayers_eq]
  exact gainsHold_of_signals (by simp [serveNone]) hcleared

theorem clear_gainsHold (r : Raised) {s : State} (h : gainsHold s) : gainsHold (clear r s) := by
  have hcleared : gainsHold (setRaised none s) := h
  exact decideAll_gainsHold (freePlayers_gainsHold (gainsHold_of_signals (queueNotice_signals _ _ _ _) hcleared))

theorem tellSealed_gainsHold (good : Bool) (job : ProgramJob) {s : State} (h : gainsHold s) : gainsHold (tellSealed good job s) := by
  unfold tellSealed
  split
  · split
    · exact gainsHold_of_signals (emergencySeal_signals ..) (offer_gainsHold h)
    · exact h
  · exact h

theorem endProgram_gainsHold (op : ProgramOp) (faults : List (Nat × Byte)) {s : State} (h : gainsHold s) :
    gainsHold (endProgram op faults s) := by
  unfold endProgram
  dsimp only
  refine tellSealed_gainsHold _ _ ?_
  exact gainsHold_of_signals (by simp) h

/-! ## The frame and the window (07 R120, R131) -/

theorem sendOutputs_gainsHold {s : State} (h : gainsHold s) : gainsHold (sendOutputs s) := h

theorem takePresence_gainsHold (codes : Table Half 16) {s : State} (h : gainsHold s) : gainsHold (takePresence codes s) :=
  decideEach_gainsHold (s := { s with presence := hearAll codes s.presence }) _ h

theorem compute_gainsHold (fi : FrameInput) {s : State} (h : gainsHold s) : gainsHold (compute s fi) := by
  refine (gainsHold_iff _).2 fun c => ?_
  simp only [compute, Table.get_ofFn]
  exact mixAfter_gainsLawful (h c) fi

theorem mixFrame_gainsHold (codes : Table Half 16) {s : State} (h : gainsHold s) : gainsHold (mixFrame codes s) :=
  endPlays_gainsHold _ (compute_gainsHold _ (gainsHold_of_signals (giveSamples_signals s) h))

theorem takeWindowEnd_gainsHold {s : State} (h : gainsHold s) : gainsHold (takeWindowEnd s) := by
  refine (gainsHold_iff _).2 fun c => ?_
  rw [takeWindowEnd_mix, takeWindowEnd_channel]
  exact windowEnded_gainsLawful (h c)

/-! ## Groups, leases and arrivals (04, 05) -/

theorem endGroup_gainsHold (g : GroupNo) {s : State} (h : gainsHold s) : gainsHold (endGroup g s).1 := by
  have hreleased : gainsHold (releaseChannel (s.group g) (releaseMic (s.group g) s)) := by
    have hmic := gainsHold_of_signals (releaseMic_signals (s.group g) s) h
    unfold releaseChannel
    split
    · exact unbindChannel_gainsHold _ hmic
    · exact hmic
  exact gainsHold_of_signals (parkMic_signals _ _) hreleased

theorem closeLease_gainsHold (u : UnitNo) {s : State} (h : gainsHold s) : gainsHold (closeLease u s).1 := by
  have hparked : gainsHold (park u (clearLease u s)) := gainsHold_of_signals (by simp) h
  unfold closeLease
  dsimp only
  split
  · split
    · exact endGroup_gainsHold _ hparked
    · exact hparked
  · exact hparked

theorem openAs_gainsHold (g : GroupNo) (u : UnitNo) (c : ChanNo) {s : State} (h : gainsHold s) : gainsHold (openAs g u c s) :=
  gainsHold_of_signals (enqueueOrder_signals ..) (bindChannel_gainsHold c g (gainsHold_of_signals (by simp) h))

theorem moveTo_gainsHold (g : GroupNo) (old new : ChanNo) {s : State} (h : gainsHold s) : gainsHold (moveTo g old new s).2 := by
  have hrebound : gainsHold (rebind g old new s) := bindChannel_gainsHold new g (unbindChannel_gainsHold old h)
  have hmic : gainsHold (moveMic (s.group g).mic (airCode s.siteCode new) (⟨0, 0, 0⟩, rebind g old new s)).2 :=
    gainsHold_of_signals (by simp) hrebound
  simp only [moveTo]
  exact gainsHold_of_signals (foldl_moveMember_signals ..) hmic

theorem returnUnit_gainsHold (u : UnitNo) (i : SlotIx) {s : State} (h : gainsHold s) : gainsHold (returnUnit u i s) := by
  have hclosed := closeLease_gainsHold u (gainsHold_of_signals (standIn_signals u i s) h)
  exact gainsHold_of_signals (by simp [returnUnit]) hclosed

theorem conflictArrival_gainsHold (u : UnitNo) (i j : SlotIx) {s : State} (h : gainsHold s) :
    gainsHold (conflictArrival u i j s) := by
  have hdisplaced := gainsHold_of_signals (displace_signals j u s) h
  unfold conflictArrival
  dsimp only
  split
  · exact gainsHold_of_signals (by simp) (closeLease_gainsHold u hdisplaced)
  · exact gainsHold_of_signals (by simp) hdisplaced

theorem arrival_gainsHold (u : UnitNo) (i : SlotIx) {s : State} (h : gainsHold s) : gainsHold (arrival u i s) := by
  have hloose := gainsHold_of_signals (looseArrival_signals u i s) h
  unfold arrival
  dsimp only
  split
  · exact returnUnit_gainsHold u i h
  · exact hloose
  all_goals
    split
    · split
      · exact h
      · exact conflictArrival_gainsHold u i _ h
    · exact hloose

theorem handArrival_gainsHold (i : SlotIx) (prev now : Occupant) {s : State} (h : gainsHold s) :
    gainsHold (handArrival i prev now s) := by
  unfold handArrival
  split
  · split
    · exact h
    · exact arrival_gainsHold _ i h
  · exact h

theorem completeIdentify_gainsHold (i : SlotIx) (serial : BitVec 32) {s : State} (h : gainsHold s) :
    gainsHold (completeIdentify i serial s) := by
  have hhanded := fun prev now => handArrival_gainsHold i prev now
    (gainsHold_of_signals (t := (settlePrevious prev now (reportStranger i now s)).updSlot i fun sl =>
      { sl with occupant := now, previous := .none, attempting := false }) (by simp) h)
  exact gainsHold_of_signals (by simp [completeIdentify]) (hhanded (s.slot i).previous (occupantOf s serial))

/-- The end of a latch window keeps the gains when what is done at the slot leaves the signal path. -/
theorem endWindow_gainsHold (u : UnitNo) (i : SlotIx) (cause : Nat) {atSlot : State → State} (hslot : ∀ t, SameSignals t (atSlot t))
    {s : State} (h : gainsHold s) : gainsHold (endWindow u i cause atSlot s) := by
  have hclosed := closeLease_gainsHold u (gainsHold_of_signals (standIn_signals u i s) h)
  exact gainsHold_of_signals (by simp [endWindow, hslot]) hclosed

theorem expireWindow_gainsHold (i : SlotIx) {s : State} (h : gainsHold s) : gainsHold (expireWindow i s) := by
  unfold expireWindow
  split
  · exact endWindow_gainsHold _ i 0 (relatch_signals _ i) h
  · exact gainsHold_of_signals (changeSlot_signals i _ s) h

theorem loseSlot_gainsHold (i : SlotIx) {s : State} (h : gainsHold s) : gainsHold (loseSlot i s) := by
  unfold loseSlot
  dsimp only
  split
  · exact gainsHold_of_signals (by simp) h
  · exact endWindow_gainsHold _ i 1 (fun t => by simp) h
  · exact h

theorem loseRack_gainsHold (r : RackNo) {s : State} (h : gainsHold s) : gainsHold (loseRack r s) :=
  foldl_gainsHold (fun _ i ht => loseSlot_gainsHold i ht) (slotsOf r) h

/-! ## Resets (12 R205) -/

theorem loadedConfig_duckLevel_le {t : State} (h : Configured t) (c : ChanNo) : (t.channel c).config.duckLevel ≤ 32768 := by
  unfold Configured at h
  split at h
  · obtain ⟨-, -, -, -, -, hconfig, -⟩ := h
    rw [hconfig c]
    exact formConfig_duckLevel_le ..
  · obtain ⟨-, -, -, -, -, hconfig, -⟩ := h
    rw [hconfig c]
    decide

/-- After a reset every channel is OFF with its duck at 32768 and its gain the configured one. -/
theorem boot_gainsHold (kind : ResetKind) (straps : Straps) (s : State) : gainsHold (boot kind straps s) := by
  have hloaded := boot_loadedBlocks kind straps s
  refine (gainsHold_iff _).2 fun c => ⟨loadedConfig_duckLevel_le hloaded.configured c, ?_, ?_⟩
  · exact Nat.le_of_eq (congrArg Mix.duck (hloaded.mix c))
  · rw [hloaded.mix c, hloaded.channels c]
    exact ⟨Nat.min_le_right _ _, Nat.le_refl _⟩

end Sys2Proof.Machine
end

section
/-! PROOFS. Every command keeps the gains lawful (07 R119, R129, R131, R132): most leave the signal path alone, and the others change it through
decisions, the mix engine and the resets. -/

namespace Sys2Proof.Machine

/-! ## Outcomes -/

/-- A command goes on to a next state, with the signal path as before. -/
def LeavesSignals (s : State) (o : Host.Outcome State Fault Refusal) : Prop := ∃ t, o = .next t ∧ SameSignals s t

/-- A command goes on to a next state, whose gains are lawful where those of the state before were. -/
def KeepsGains (s : State) (o : Host.Outcome State Fault Refusal) : Prop := ∃ t, o = .next t ∧ (gainsHold s → gainsHold t)

theorem LeavesSignals.keepsGains {s : State} {o : Host.Outcome State Fault Refusal} (h : LeavesSignals s o) : KeepsGains s o := by
  obtain ⟨t, ho, hsame⟩ := h
  exact ⟨t, ho, gainsHold_of_signals hsame⟩

/-- What a request leaves of the signal path is what its owner's body leaves, or it has not been taken. -/
theorem serve_signals (cmd : Command) (q : Req) (body : State → State × Option Answer) (s : State) :
    SameSignals s (serve cmd q body s) ∨ SameSignals (body s).1 (serve cmd q body s) := by
  unfold serve
  split
  · split
    · right
      split
      · next heq => rw [heq]; exact answerPort_signals _ _ _
      · next heq => rw [heq]; exact keepWaiting_signals _ _
    · exact .inl (answerPort_signals _ _ _)
  · exact .inl (by simp)

theorem serve_leavesSignals {cmd : Command} {q : Req} {body : State → State × Option Answer} {s : State}
    (h : SameSignals s (body s).1) : LeavesSignals s (.next (serve cmd q body s)) :=
  ⟨_, rfl, (serve_signals cmd q body s).elim id h.trans⟩

theorem serve_keepsGains {cmd : Command} {q : Req} {body : State → State × Option Answer} {s : State}
    (h : gainsHold s → gainsHold (body s).1) : KeepsGains s (.next (serve cmd q body s)) := by
  refine ⟨_, rfl, fun hs => ?_⟩
  obtain hsame | hsame := serve_signals cmd q body s
  · exact gainsHold_of_signals hsame hs
  · exact gainsHold_of_signals hsame (h hs)

section
variable (q : Req) (s : State)

/-! ## Requests that leave the signal path alone: ports and the fleet (01, 11) -/

theorem execIdentify_leavesSignals : LeavesSignals s (execIdentify q s) := serve_leavesSignals (by simp)

theorem execFetchNotices_leavesSignals : LeavesSignals s (execFetchNotices q s) := serve_leavesSignals (by simp)

theorem execSetPortOptions_leavesSignals (port : Nat) (mask : BitVec 24) (attention invert : Bool) :
    LeavesSignals s (execSetPortOptions q port mask attention invert s) := by
  refine serve_leavesSignals ?_
  dsimp only
  repeat' split
  all_goals simp

theorem execReadUnit_leavesSignals (u : UnitNo) : LeavesSignals s (execReadUnit q u s) := serve_leavesSignals (by simp)

theorem execSelectUnits_leavesSignals (p : SelectQuery) : LeavesSignals s (execSelectUnits q p s) :=
  serve_leavesSignals (by dsimp only; split <;> simp)

theorem execEnrolUnit_leavesSignals (u : UnitNo) (kind : Option UnitKind) (serial : BitVec 32) (marks : Byte) (cycles : Half) :
    LeavesSignals s (execEnrolUnit q u kind serial marks cycles s) := by
  refine serve_leavesSignals ?_
  dsimp only
  repeat' split
  all_goals simp

theorem execRetireUnit_leavesSignals (u : UnitNo) : LeavesSignals s (execRetireUnit q u s) := by
  refine serve_leavesSignals ?_
  dsimp only
  repeat' split
  all_goals simp

theorem execUnenrolUnit_leavesSignals (u : UnitNo) : LeavesSignals s (execUnenrolUnit q u s) := by
  refine serve_leavesSignals ?_
  dsimp only
  repeat' split
  all_goals simp

theorem execSetUnitMarks_leavesSignals (u : UnitNo) (clearMask setMask : Byte) :
    LeavesSignals s (execSetUnitMarks q u clearMask setMask s) := by
  refine serve_leavesSignals ?_
  dsimp only
  repeat' split
  all_goals simp

theorem execReportUnits_leavesSignals (rs : List UnitReport) : LeavesSignals s (execReportUnits q rs s) :=
  serve_leavesSignals (by dsimp only; split <;> simp)

/-! ## Issue, groups and tuning (04, 05) -/

theorem execIssueUnit_leavesSignals (group channel : Nat) : LeavesSignals s (execIssueUnit q group channel s) := by
  refine serve_leavesSignals ?_
  repeat' split
  all_goals simp

theorem execSetIssueSettings_leavesSignals (c : IssueSettings) : LeavesSignals s (execSetIssueSettings q c s) :=
  serve_leavesSignals (by simp [applyIssue])

theorem execSetTime_leavesSignals (t : Time) : LeavesSignals s (execSetTime q t s) := serve_leavesSignals (by simp)

theorem execReadGroup_leavesSignals (g : Nat) : LeavesSignals s (execReadGroup q g s) :=
  serve_leavesSignals (by dsimp only; split <;> simp)

theorem execFetchTuneOrders_leavesSignals : LeavesSignals s (execFetchTuneOrders q s) := serve_leavesSignals (by simp)

theorem execReadTuneMap_leavesSignals (page : Nat) (restart : Bool) : LeavesSignals s (execReadTuneMap q page restart s) :=
  serve_leavesSignals (by dsimp only; split <;> simp)

theorem execReadChannelPlan_leavesSignals (part : Nat) : LeavesSignals s (execReadChannelPlan q part s) := by
  refine serve_leavesSignals ?_
  dsimp only
  repeat' split
  all_goals simp

/-! ## Racks and slots (02, 03) -/

theorem execReadRack_leavesSignals (r : Nat) : LeavesSignals s (execReadRack q r s) :=
  serve_leavesSignals (by dsimp only; split <;> simp)

theorem execSetRackBudget_leavesSignals (r budget : Nat) : LeavesSignals s (execSetRackBudget q r budget s) :=
  serve_leavesSignals (by dsimp only; split <;> simp)

theorem execSetChargeSettings_leavesSignals (c : ChargeSettings) : LeavesSignals s (execSetChargeSettings q c s) :=
  serve_leavesSignals (by simp)

theorem execForceMonitor_leavesSignals (r k : Nat) (m : Monitors) : LeavesSignals s (execForceMonitor q r k m s) := by
  refine serve_leavesSignals ?_
  repeat' split
  all_goals simp

theorem execClearSlotFault_leavesSignals (r k : Nat) : LeavesSignals s (execClearSlotFault q r k s) := by
  refine serve_leavesSignals ?_
  repeat' split
  all_goals simp

/-! ## The store (08, 12) -/

theorem execReadDirectory_leavesSignals (start : Nat) (wide : Bool) : LeavesSignals s (execReadDirectory q start wide s) := by
  refine serve_leavesSignals ?_
  dsimp only
  repeat' split
  all_goals simp

theorem execBeginClip_leavesSignals (clip : Nat) (l : Lang) (cls : Option ClipClass) :
    LeavesSignals s (execBeginClip q clip l cls s) := by
  refine serve_leavesSignals ?_
  repeat' split
  all_goals simp

theorem execAppendAudio_leavesSignals (clip : Nat) (codes : List Byte) : LeavesSignals s (execAppendAudio q clip codes s) := by
  refine serve_leavesSignals ?_
  repeat' split
  all_goals simp

theorem execSealClip_leavesSignals (clip : Nat) : LeavesSignals s (execSealClip q clip s) := by
  refine serve_leavesSignals ?_
  dsimp only
  repeat' split
  all_goals simp

theorem execDeleteClip_leavesSignals (clip : Nat) : LeavesSignals s (execDeleteClip q clip s) := by
  refine serve_leavesSignals ?_
  dsimp only
  repeat' split
  all_goals simp [withdraw, updClip]

theorem execEraseBlock_leavesSignals (block : Nat) : LeavesSignals s (execEraseBlock q block s) := by
  refine serve_leavesSignals ?_
  dsimp only
  repeat' split
  all_goals simp

theorem execSuspendStore_leavesSignals : LeavesSignals s (execSuspendStore q s) := by
  refine serve_leavesSignals ?_
  dsimp only
  repeat' split
  all_goals simp [awaitSuspension]

theorem execResumeStore_leavesSignals : LeavesSignals s (execResumeStore q s) := by
  refine serve_leavesSignals ?_
  dsimp only
  repeat' split
  all_goals simp

theorem execReadStore_leavesSignals (b : BlockNo) (offset length : Nat) : LeavesSignals s (execReadStore q b offset length s) :=
  serve_leavesSignals (by split <;> simp)

theorem execProtectGroup_leavesSignals (group : Nat) : LeavesSignals s (execProtectGroup q group s) :=
  serve_leavesSignals (by dsimp only; split <;> simp)

theorem execUnprotectGroup_leavesSignals (group : Nat) : LeavesSignals s (execUnprotectGroup q group s) := by
  refine serve_leavesSignals ?_
  dsimp only
  repeat' split
  all_goals simp

theorem execSaveSiteRecord_leavesSignals (form : Option SaveForm) : LeavesSignals s (execSaveSiteRecord q form s) := by
  unfold execSaveSiteRecord
  split
  · refine serve_leavesSignals ?_
    dsimp only
    repeat' split
    all_goals simp
  · exact ⟨s, rfl, by simp⟩

/-! ## Requests that reach the channel plan (05, 06, 09, 10, 11) -/

theorem execOpenGroup_keepsGains (u : UnitNo) (channel : Nat) : KeepsGains s (execOpenGroup q u channel s) := by
  refine serve_keepsGains fun h => ?_
  split
  · exact h
  · split
    · exact h
    · exact openAs_gainsHold _ u _ h
    · exact h

theorem execCloseGroup_keepsGains (group : Nat) : KeepsGains s (execCloseGroup q group s) := by
  refine serve_keepsGains fun h => ?_
  dsimp only
  split
  · exact h
  · next g _ =>
    split
    · exact h
    · split
      · exact gainsHold_of_signals (queueEmpty_signals _ _) (endGroup_gainsHold g h)
      · exact gainsHold_of_signals (capDeadlines_signals g s) h
    · exact gainsHold_of_signals (capDeadlines_signals g s) h

theorem execMoveGroup_keepsGains (group channel : Nat) : KeepsGains s (execMoveGroup q group channel s) := by
  refine serve_keepsGains fun h => ?_
  dsimp only
  split
  · split
    · exact h
    · exact h
    · split
      · exact h
      · split
        · exact h
        · split
          · exact h
          · rw [done_fst]
            exact moveTo_gainsHold _ _ _ h
  · exact h

theorem execReportGuideLinks_keepsGains (rs : List LinkReport) : KeepsGains s (execReportGuideLinks q rs s) := by
  refine serve_keepsGains fun h => ?_
  dsimp only
  split
  · exact h
  · split
    · exact h
    · exact takeLinks_gainsHold rs h

theorem execSetChannel_keepsGains (channel : Nat) (f : ChannelForm) : KeepsGains s (execSetChannel q channel f s) := by
  refine serve_keepsGains fun h => ?_
  dsimp only
  split
  · exact h
  · split
    · split
      · exact h
      · exact h
      · exact setChannelTo_gainsHold _ (formConfig_duckLevel_le f _) h
    · exact h

theorem execStartAnnouncement_keepsGains (clip loops : Nat) (channels : List Nat) :
    KeepsGains s (execStartAnnouncement q clip loops channels s) := by
  refine serve_keepsGains fun h => ?_
  dsimp only
  split
  · exact h
  · split
    · exact h
    · split
      · exact h
      · split
        · exact h
        · split
          · exact h
          · split
            · exact h
            · exact announce_gainsHold _ _ clip loops _ h

theorem execStopPlayer_keepsGains (player : Nat) : KeepsGains s (execStopPlayer q player s) := by
  refine serve_keepsGains fun h => ?_
  dsimp only
  split
  · exact h
  · split
    · exact h
    · split
      · exact endPlay_gainsHold _ .stopped h
      · exact h

theorem execRaiseEmergency_keepsGains : KeepsGains s (execRaiseEmergency q s) := by
  refine serve_keepsGains fun h => ?_
  dsimp only
  split
  · exact h
  · exact raise_gainsHold .request h

theorem execClearEmergency_keepsGains : KeepsGains s (execClearEmergency q s) := by
  refine serve_keepsGains fun h => ?_
  dsimp only
  split
  · exact h
  · split
    · exact h
    · rw [done_fst]
      exact clear_gainsHold _ h

theorem execResetPart_keepsGains : KeepsGains s (execResetPart q s) := serve_keepsGains fun _ => boot_gainsHold _ _ s

end

section
variable (s : State)

/-! ## Transfers, the clock and the rack link (02, 04, 11) -/

theorem execFrameWrite_leavesSignals (p : PortId) (bs : List Byte) : LeavesSignals s (execFrameWrite p bs s) :=
  ⟨_, rfl, by split <;> simp⟩

theorem execReadTransfer_leavesSignals (p : PortId) (n : Nat) : LeavesSignals s (execReadTransfer p n s) :=
  ⟨_, rfl, by split <;> simp⟩

theorem execSiteClockAdvance_leavesSignals : LeavesSignals s (execSiteClockAdvance s) := ⟨_, rfl, by split <;> simp⟩

theorem execRackPoll_leavesSignals : LeavesSignals s (execRackPoll s) := ⟨_, rfl, by split <;> simp⟩

theorem execRackAnswer_leavesSignals (r : RackNo) (rds : Table Reading 16) : LeavesSignals s (execRackAnswer r rds s) := by
  refine ⟨_, rfl, ?_⟩
  dsimp only
  repeat' split
  all_goals simp

theorem execSlotReading_leavesSignals (r : RackNo) (k : SlotNo) (rd : Reading) : LeavesSignals s (execSlotReading r k rd s) :=
  ⟨_, rfl, by split <;> simp⟩

theorem execMissedPoll_keepsGains (r : RackNo) : KeepsGains s (execMissedPoll r s) := by
  refine ⟨_, rfl, fun h => ?_⟩
  have hnoted := gainsHold_of_signals (notePoll_signals r false s) h
  dsimp only
  split
  · exact h
  · split
    · split
      · exact hnoted
      · exact loseRack_gainsHold r hnoted
    · exact hnoted

theorem execSerialArrived_keepsGains (r : RackNo) (k : SlotNo) (serial : BitVec 32) : KeepsGains s (execSerialArrived r k serial s) := by
  refine ⟨_, rfl, fun h => ?_⟩
  split
  · exact completeIdentify_gainsHold _ serial h
  · exact h

theorem execIdentifyTimeout_keepsGains (r : RackNo) (k : SlotNo) : KeepsGains s (execIdentifyTimeout r k s) := by
  refine ⟨_, rfl, fun h => ?_⟩
  have hcounted : gainsHold (countAttempt (slotIx r k) s) := h
  dsimp only
  split
  · split
    · exact hcounted
    · exact completeIdentify_gainsHold _ 0 hcounted
  · exact h

theorem execLatchWindowExpiry_keepsGains (r : RackNo) (k : SlotNo) : KeepsGains s (execLatchWindowExpiry r k s) := by
  refine ⟨_, rfl, fun h => ?_⟩
  split
  · exact expireWindow_gainsHold _ h
  · exact h

/-! ## The store's events (08, 12) -/

theorem execReadPathServe_leavesSignals : LeavesSignals s (execReadPathServe s) := by
  refine ⟨_, rfl, ?_⟩
  repeat' split
  all_goals simp

theorem execRefillLand_leavesSignals : LeavesSignals s (execRefillLand s) := ⟨_, rfl, by split <;> simp⟩

theorem execReadStoreComplete_leavesSignals : LeavesSignals s (execReadStoreComplete s) := by
  refine ⟨_, rfl, ?_⟩
  repeat' split
  all_goals simp [freePath]

theorem execGatheringWindowExpiry_leavesSignals : LeavesSignals s (execGatheringWindowExpiry s) := ⟨_, rfl, by split <;> simp⟩

theorem execPendingMarksDone_leavesSignals (faults : List (Nat × Byte)) : LeavesSignals s (execPendingMarksDone faults s) :=
  ⟨_, rfl, by split <;> simp⟩

theorem execBlockEraseDone_leavesSignals (left : List (Nat × Byte)) : LeavesSignals s (execBlockEraseDone left s) := by
  refine ⟨_, rfl, ?_⟩
  repeat' split
  all_goals simp

theorem execSuspensionComplete_leavesSignals : LeavesSignals s (execSuspensionComplete s) := ⟨_, rfl, by split <;> simp⟩

theorem execQuietTimerExpiry_leavesSignals : LeavesSignals s (execQuietTimerExpiry s) := ⟨_, rfl, by split <;> simp⟩

theorem execRecordSaveDone_leavesSignals : LeavesSignals s (execRecordSaveDone s) := by
  refine ⟨_, rfl, ?_⟩
  dsimp only
  repeat' split
  all_goals simp

theorem execProgramDone_keepsGains (faults : List (Nat × Byte)) : KeepsGains s (execProgramDone faults s) := by
  refine ⟨_, rfl, fun h => ?_⟩
  split
  · split
    · exact endProgram_gainsHold _ faults h
    · exact h
  · exact h

/-! ## Frames and windows (07) -/

theorem execAudioFrame_keepsGains (codes : Table Half 16) : KeepsGains s (execAudioFrame codes s) := by
  refine ⟨_, rfl, fun h => ?_⟩
  split
  · exact h
  · exact h
  · refine mixFrame_gainsHold codes (takePresence_gainsHold codes (sendOutputs_gainsHold ?_))
    split
    · exact takeWindowEnd_gainsHold h
    · exact h

theorem execMixWindowEnd_keepsGains : KeepsGains s (execMixWindowEnd s) := by
  refine ⟨_, rfl, fun h => ?_⟩
  split
  · exact takeWindowEnd_gainsHold h
  · exact h

/-! ## The pins, start-up and resets (10, 12) -/

theorem execEvacuationInputChange_keepsGains (active : Bool) : KeepsGains s (execEvacuationInputChange active s) := by
  refine ⟨_, rfl, fun h => ?_⟩
  dsimp only
  split
  · exact h
  · exact h
  · split
    · exact h
    · exact raiseByInput_gainsHold (s := { s with emergency := { s.emergency with input := active } }) h

theorem openPorts_signals : SameSignals s (openPorts s) := by
  simp [openPorts]

theorem execStartupEnd_keepsGains : KeepsGains s (execStartupEnd s) := by
  refine ⟨_, rfl, fun h => ?_⟩
  split
  · have hdecided := decideAll_gainsHold h
    exact raiseByInput_gainsHold (gainsHold_of_signals (openPorts_signals _) hdecided)
  · exact h

theorem execPowerOn_keepsGains (straps : Straps) : KeepsGains s (execPowerOn straps s) :=
  ⟨_, rfl, fun _ => boot_gainsHold _ _ s⟩

theorem execResetLineAssert_keepsGains : KeepsGains s (execResetLineAssert s) :=
  ⟨_, rfl, fun _ => gainsHold_of_signals (by simp) (boot_gainsHold .resetLine s.straps s)⟩

theorem execResetLineRelease_keepsGains (straps : Straps) : KeepsGains s (execResetLineRelease straps s) := by
  refine ⟨_, rfl, fun h => ?_⟩
  split
  · exact boot_gainsHold _ _ s
  · exact h

end

/-! ## Every command -/

theorem exec_keepsGains (i : Instr) (s : State) : KeepsGains s (exec i s) :=
  match i with
  | .identify q => (execIdentify_leavesSignals q s).keepsGains
  | .fetchNotices q => (execFetchNotices_leavesSignals q s).keepsGains
  | .readUnit q u => (execReadUnit_leavesSignals q s u).keepsGains
  | .selectUnits q p => (execSelectUnits_leavesSignals q s p).keepsGains
  | .readGroup q g => (execReadGroup_leavesSignals q s g).keepsGains
  | .readRack q r => (execReadRack_leavesSignals q s r).keepsGains
  | .readChannelPlan q part => (execReadChannelPlan_leavesSignals q s part).keepsGains
  | .readDirectory q start wide => (execReadDirectory_leavesSignals q s start wide).keepsGains
  | .issueUnit q g c => (execIssueUnit_leavesSignals q s g c).keepsGains
  | .openGroup q u c => execOpenGroup_keepsGains q s u c
  | .closeGroup q g => execCloseGroup_keepsGains q s g
  | .moveGroup q g c => execMoveGroup_keepsGains q s g c
  | .setUnitMarks q u clearMask setMask => (execSetUnitMarks_leavesSignals q s u clearMask setMask).keepsGains
  | .reportUnits q rs => (execReportUnits_leavesSignals q s rs).keepsGains
  | .reportGuideLinks q rs => execReportGuideLinks_keepsGains q s rs
  | .fetchTuneOrders q => (execFetchTuneOrders_leavesSignals q s).keepsGains
  | .readTuneMap q page restart => (execReadTuneMap_leavesSignals q s page restart).keepsGains
  | .enrolUnit q u kind serial marks cycles => (execEnrolUnit_leavesSignals q s u kind serial marks cycles).keepsGains
  | .retireUnit q u => (execRetireUnit_leavesSignals q s u).keepsGains
  | .unenrolUnit q u => (execUnenrolUnit_leavesSignals q s u).keepsGains
  | .setRackBudget q r budget => (execSetRackBudget_leavesSignals q s r budget).keepsGains
  | .setChargeSettings q c => (execSetChargeSettings_leavesSignals q s c).keepsGains
  | .setIssueSettings q c => (execSetIssueSettings_leavesSignals q s c).keepsGains
  | .forceMonitor q r k m => (execForceMonitor_leavesSignals q s r k m).keepsGains
  | .clearSlotFault q r k => (execClearSlotFault_leavesSignals q s r k).keepsGains
  | .setChannel q c f => execSetChannel_keepsGains q s c f
  | .setTime q t => (execSetTime_leavesSignals q s t).keepsGains
  | .startAnnouncement q clip loops cs => execStartAnnouncement_keepsGains q s clip loops cs
  | .stopPlayer q p => execStopPlayer_keepsGains q s p
  | .raiseEmergency q => execRaiseEmergency_keepsGains q s
  | .clearEmergency q => execClearEmergency_keepsGains q s
  | .beginClip q clip l cls => (execBeginClip_leavesSignals q s clip l cls).keepsGains
  | .appendAudio q clip codes => (execAppendAudio_leavesSignals q s clip codes).keepsGains
  | .sealClip q clip => (execSealClip_leavesSignals q s clip).keepsGains
  | .deleteClip q clip => (execDeleteClip_leavesSignals q s clip).keepsGains
  | .eraseBlock q b => (execEraseBlock_leavesSignals q s b).keepsGains
  | .suspendStore q => (execSuspendStore_leavesSignals q s).keepsGains
  | .resumeStore q => (execResumeStore_leavesSignals q s).keepsGains
  | .readStore q b offset length => (execReadStore_leavesSignals q s b offset length).keepsGains
  | .protectGroup q g => (execProtectGroup_leavesSignals q s g).keepsGains
  | .unprotectGroup q g => (execUnprotectGroup_leavesSignals q s g).keepsGains
  | .saveSiteRecord q form => (execSaveSiteRecord_leavesSignals q s form).keepsGains
  | .setPortOptions q port mask attention invert => (execSetPortOptions_leavesSignals q s port mask attention invert).keepsGains
  | .resetPart q => execResetPart_keepsGains q s
  | .frameWrite p bs => (execFrameWrite_leavesSignals s p bs).keepsGains
  | .readTransfer p n => (execReadTransfer_leavesSignals s p n).keepsGains
  | .ignoredTransfer _ _ => ⟨s, rfl, id⟩
  | .rackPoll => (execRackPoll_leavesSignals s).keepsGains
  | .rackAnswer r rds => (execRackAnswer_leavesSignals s r rds).keepsGains
  | .missedPoll r => execMissedPoll_keepsGains s r
  | .slotReading r k rd => (execSlotReading_leavesSignals s r k rd).keepsGains
  | .serialArrived r k serial => execSerialArrived_keepsGains s r k serial
  | .identifyTimeout r k => execIdentifyTimeout_keepsGains s r k
  | .latchWindowExpiry r k => execLatchWindowExpiry_keepsGains s r k
  | .siteClockAdvance => (execSiteClockAdvance_leavesSignals s).keepsGains
  | .audioFrame codes => execAudioFrame_keepsGains s codes
  | .mixWindowEnd => execMixWindowEnd_keepsGains s
  | .readPathServe => (execReadPathServe_leavesSignals s).keepsGains
  | .refillLand => (execRefillLand_leavesSignals s).keepsGains
  | .readStoreComplete => (execReadStoreComplete_leavesSignals s).keepsGains
  | .programDone faults => execProgramDone_keepsGains s faults
  | .gatheringWindowExpiry => (execGatheringWindowExpiry_leavesSignals s).keepsGains
  | .pendingMarksDone faults => (execPendingMarksDone_leavesSignals s faults).keepsGains
  | .blockEraseDone left => (execBlockEraseDone_leavesSignals s left).keepsGains
  | .suspensionComplete => (execSuspensionComplete_leavesSignals s).keepsGains
  | .quietTimerExpiry => (execQuietTimerExpiry_leavesSignals s).keepsGains
  | .recordSaveDone => (execRecordSaveDone_leavesSignals s).keepsGains
  | .evacuationInputChange active => execEvacuationInputChange_keepsGains s active
  | .serviceKeyChange _ => ⟨_, rfl, id⟩
  | .powerOn straps => execPowerOn_keepsGains s straps
  | .resetLineAssert => execResetLineAssert_keepsGains s
  | .resetLineRelease straps => execResetLineRelease_keepsGains s straps
  | .startupEnd => execStartupEnd_keepsGains s

/-- Settles O8: a step is the front command on the state that holds the rest of the queue, and every command keeps the gains lawful: entry to
EMERGENCY fixes a channel's gain and exit from it or Set Channel restores the configured one, a trim lowers the gain no further than the floor, and
a duck moves toward a target that is at most 32768. -/
theorem gainsKeepTheirLaw : Obligations.GainsKeepTheirLaw := by
  intro s t hs ht
  unfold step at ht
  split at ht
  · cases ht
    exact hs
  · next i rest _ =>
    obtain ⟨t', ho, hkeeps⟩ := exec_keepsGains i { s with pending := rest }
    rw [ho] at ht
    cases ht
    exact hkeeps hs

end Sys2Proof.Machine
end

section
/-! PROOFS. What leaves the player pool alone (09, 10): the channels' and the players' records, emergency control and the read in service stand
under the ports, the roster, the racks and the store. -/

namespace Sys2Proof.Machine

/-- The pool's records stand: the channels, the players, emergency control and the read in service are as before. It unfolds for simp, so that a
lemma about an operation rewrites each of these fields. -/
@[simp] abbrev SamePool (s t : State) : Prop :=
  t.channels = s.channels ∧ t.players = s.players ∧ t.emergency = s.emergency ∧ t.path.inService = s.path.inService

theorem SamePool.trans {s t u : State} (h : SamePool s t) (k : SamePool t u) : SamePool s u := by
  simp_all

/-- A fold of steps that each leave the pool leaves it. -/
theorem foldl_pool {α : Type} {f : State → α → State} (h : ∀ s a, SamePool s (f s a)) (l : List α) (s : State) :
    SamePool s (l.foldl f s) :=
  List.foldlRecOn (motive := SamePool s) l f (by simp) fun t ht a _ => ht.trans (h t a)

/-- Whatever else a frame lets differ, it holds the pool's records when it names none of their fields. -/
theorem SameButPorts.pool {s t : State} (h : SameButPorts s t) : SamePool s t :=
  ⟨(congrArg State.channels h :), (congrArg State.players h :), (congrArg State.emergency h :),
    (congrArg (fun x : State => x.path.inService) h :)⟩

theorem FleetAndSlotsOnly.pool {s t : State} (h : FleetAndSlotsOnly s t) : SamePool s t := (SameButPorts.pool h :)

theorem OrdersOnly.pool {s t : State} (h : OrdersOnly s t) : SamePool s t := (SameButPorts.pool h :)

theorem ArbiterOnly.pool {r : RackNo} {s t : State} (h : ArbiterOnly r s t) : SamePool s t := by
  rw [← h.frame]
  simp

/-! ## Ports and notices (11) -/

@[simp] theorem queueNotice_pool (k : NoticeKind) (j : Subject) (d : Detail) (s : State) : SamePool s (queueNotice k j d s) :=
  (queueNotice_fleetOnly k j d s).fleetAndSlots.pool

@[simp] theorem answerPort_pool (p : PortId) (a : Answer) (s : State) : SamePool s (answerPort p a s) :=
  (answerPort_sameButPorts p a s).pool

@[simp] theorem keepWaiting_pool (p : PortId) (s : State) : SamePool s (keepWaiting p s) :=
  (updPort_sameButPorts p _ s).pool

/-! ## The roster (01, 04, 05) -/

@[simp] theorem changeSlot_pool (i : SlotIx) (f : Slot → Slot) (s : State) : SamePool s (changeSlot i f s) :=
  (changeSlot_fleetAndSlotsOnly i f s).pool

@[simp] theorem readyAppend_pool (u : UnitNo) (s : State) : SamePool s (readyAppend u s) := by
  simp [readyAppend, armCheck]

@[simp] theorem readyPush_pool (u : UnitNo) (s : State) : SamePool s (readyPush u s) := by
  simp [readyPush, armCheck]

@[simp] theorem readyRemove_pool (u : UnitNo) (s : State) : SamePool s (readyRemove u s) := by
  simp [readyRemove]

@[simp] theorem readyRemoveOccupant_pool (o : Occupant) (s : State) : SamePool s (readyRemoveOccupant o s) := by
  cases o <;> simp [readyRemoveOccupant]

@[simp] theorem judgeUnit_pool (u : UnitNo) (s : State) : SamePool s (judgeUnit u s) :=
  (judgeUnit_fleetAndSlotsOnly u s).pool

@[simp] theorem enrol_pool (u : UnitNo) (kind : UnitKind) (serial : BitVec 32) (marks : Byte) (cycles : Nat) (s : State) :
    SamePool s (enrol u kind serial marks cycles s) := by
  unfold enrol
  dsimp only
  split <;> simp [placeNew]

@[simp] theorem applyReports_pool (rs : List UnitReport) (s : State) : SamePool s (applyReports rs s).2 :=
  (applyReports_telemetryKept rs s).frame.fleetAndSlots.pool

@[simp] theorem enqueueOrder_pool (u : UnitNo) (air : Nat) (s : State) : SamePool s (enqueueOrder u air s) :=
  (enqueueOrder_ordersOnly u air s).pool

@[simp] theorem park_pool (u : UnitNo) (s : State) : SamePool s (park u s) := enqueueOrder_pool u 0 s

@[simp] theorem queueEmpty_pool (n : PendingEmpty) (s : State) : SamePool s (queueEmpty n s) := by
  cases n <;> simp [queueEmpty]

@[simp] theorem clearLease_pool (u : UnitNo) (s : State) : SamePool s (clearLease u s) := by
  obtain ⟨groups, h⟩ := clearLease_eq u s
  simp [h]

@[simp] theorem judgeDeadlines_pool (s : State) : SamePool s (judgeDeadlines s) :=
  (judgeDeadlines_judged s).frame.fleetAndSlots.pool

@[simp] theorem plainRemoval_pool (u : UnitNo) (s : State) : SamePool s (plainRemoval u s) := by
  simp [plainRemoval]

@[simp] theorem issueRemoval_pool (u : UnitNo) (s : State) : SamePool s (issueRemoval u s) := by
  simp [issueRemoval]

@[simp] theorem forcedRemoval_pool (u : UnitNo) (i : SlotIx) (was : SlotState) (s : State) :
    SamePool s (forcedRemoval u i was s) := by
  simp [forcedRemoval]

@[simp] theorem issueHead_pool (g : Option GroupNo) (c : ChanNo) (s : State) : SamePool s (issueHead g c s).1 := by
  unfold issueHead
  split
  · simp
  · exact (issueTo_issued _ g c s).frame.pool

@[simp] theorem releaseMic_pool (gr : Group) (s : State) : SamePool s (releaseMic gr s) := by
  unfold releaseMic
  split <;> simp

@[simp] theorem parkMic_pool (gr : Group) (s : State) : SamePool s (parkMic gr s) := by
  unfold parkMic
  split <;> simp

@[simp] theorem capDeadlines_pool (g : GroupNo) (s : State) : SamePool s (capDeadlines g s) := by
  simp [capDeadlines]

@[simp] theorem moveMember_pool (g : GroupNo) (c : ChanNo) (air : Nat) (t : FateCounts × State) (u : UnitNo) :
    SamePool t.2 (moveMember g c air t u).2 := by
  unfold moveMember
  split <;> simp [countOrder]

@[simp] theorem moveMic_pool (mic : Option UnitNo) (air : Nat) (t : FateCounts × State) : SamePool t.2 (moveMic mic air t).2 := by
  cases mic <;> simp [moveMic, countOrder]

theorem foldl_moveMember_pool (g : GroupNo) (c : ChanNo) (air : Nat) (us : List UnitNo) (t : FateCounts × State) :
    SamePool t.2 (us.foldl (moveMember g c air) t).2 :=
  List.foldlRecOn (motive := fun x : FateCounts × State => SamePool t.2 x.2) us _ (by simp)
    fun x hx u _ => hx.trans (moveMember_pool g c air x u)

@[simp] theorem restartMap_pool (restart : Bool) (s : State) : SamePool s (restartMap restart s) := by
  cases restart <;> simp [restartMap]

@[simp] theorem reportLostGuide_pool (before : State) (g : GroupNo) (s : State) : SamePool s (reportLostGuide before g s) := by
  unfold reportLostGuide
  dsimp only
  split <;> simp

/-! ## The racks (02, 03) -/

@[simp] theorem evaluate_pool (r : RackNo) (s : State) : SamePool s (evaluate r s) := (evaluate_arbiterOnly r s).pool

@[simp] theorem applyBudget_pool (r : RackNo) (budget : Nat) (s : State) : SamePool s (applyBudget r budget s) :=
  (applyBudget_arbiterOnly r budget s).pool

@[simp] theorem giveBack_pool (i : SlotIx) (s : State) : SamePool s (giveBack i s) := by
  simp [giveBack]

@[simp] theorem leaveArbiter_pool (i : SlotIx) (s : State) : SamePool s (leaveArbiter i s) := by
  unfold leaveArbiter
  split <;> simp

@[simp] theorem joinWait_pool (i : SlotIx) (ph : Phase) (s : State) : SamePool s (joinWait i ph s) := by
  simp [joinWait]

@[simp] theorem enterTopoff_pool (i : SlotIx) (s : State) : SamePool s (enterTopoff i s) := by
  unfold enterTopoff
  dsimp only
  split <;> simp

@[simp] theorem setCharge_pool (i : SlotIx) (c : Nat) (s : State) : SamePool s (setCharge i c s) := by
  unfold setCharge writeCharge
  split <;> simp

@[simp] theorem setBatteryFault_pool (o : Occupant) (b : Bool) (s : State) : SamePool s (setBatteryFault o b s) := by
  cases o <;> simp [setBatteryFault]

@[simp] theorem countCycle_pool (o : Occupant) (s : State) : SamePool s (countCycle o s) := by
  cases o <;> simp [countCycle]

@[simp] theorem countReading_pool (i : SlotIx) (rd : Reading) (s : State) : SamePool s (countReading i rd s) := by
  unfold countReading
  dsimp only
  split <;> simp

@[simp] theorem settleCharged_pool (i : SlotIx) (s : State) : SamePool s (settleCharged i s) := by
  unfold settleCharged
  split
  · split <;> simp
  · simp

@[simp] theorem enterFault_pool (i : SlotIx) (cause : Monitors) (s : State) : SamePool s (enterFault i cause s) := by
  unfold enterFault
  dsimp only
  split <;> simp

@[simp] theorem endTopoff_pool (i : SlotIx) (s : State) : SamePool s (endTopoff i s) := by
  unfold endTopoff
  dsimp only
  split <;> simp

@[simp] theorem changePhase_pool (i : SlotIx) (rd : Reading) (s : State) : SamePool s (changePhase i rd s) := by
  unfold changePhase
  dsimp only
  repeat' split
  all_goals simp

@[simp] theorem monitoredReading_pool (i : SlotIx) (rd : Reading) (s : State) : SamePool s (monitoredReading i rd s) := by
  unfold monitoredReading
  dsimp only
  split <;> simp

@[simp] theorem handRemoval_pool (i : SlotIx) (sl : Slot) (mic : Bool) (s : State) : SamePool s (handRemoval i sl mic s) := by
  unfold handRemoval
  repeat' split
  all_goals simp

@[simp] theorem removal_pool (i : SlotIx) (s : State) : SamePool s (removal i s) := by
  unfold removal
  dsimp only
  split <;> simp

@[simp] theorem takeReading_pool (i : SlotIx) (rd : Reading) (s : State) : SamePool s (takeReading i rd s) := by
  unfold takeReading
  dsimp only
  repeat' split
  all_goals simp

@[simp] theorem displace_pool (j : SlotIx) (u : UnitNo) (s : State) : SamePool s (displace j u s) := by
  unfold displace
  dsimp only
  split <;> simp

@[simp] theorem standIn_pool (u : UnitNo) (i : SlotIx) (s : State) : SamePool s (standIn u i s) := by
  simp [standIn]

@[simp] theorem looseArrival_pool (u : UnitNo) (i : SlotIx) (s : State) : SamePool s (looseArrival u i s) := by
  simp [looseArrival]

@[simp] theorem reportStranger_pool (i : SlotIx) (o : Occupant) (s : State) : SamePool s (reportStranger i o s) := by
  unfold reportStranger
  dsimp only
  repeat' split
  all_goals simp

@[simp] theorem settlePrevious_pool (prev now : Occupant) (s : State) : SamePool s (settlePrevious prev now s) := by
  unfold settlePrevious
  repeat' split
  all_goals simp

@[simp] theorem relatch_pool (u : UnitNo) (i : SlotIx) (s : State) : SamePool s (relatch u i s) := by
  unfold relatch
  split <;> simp

@[simp] theorem returnSlot_pool (i : SlotIx) (rd : Reading) (s : State) : SamePool s (returnSlot i rd s) := by
  unfold returnSlot
  dsimp only
  repeat' split
  all_goals simp

@[simp] theorem returnRack_pool (r : RackNo) (rds : Table Reading 16) (s : State) : SamePool s (returnRack r rds s) :=
  SamePool.trans (by simp) (foldl_pool (fun t k => returnSlot_pool (slotIx r k) (rds.get k) t) (every 16) _)

@[simp] theorem notePoll_pool (r : RackNo) (answered : Bool) (s : State) : SamePool s (notePoll r answered s) := by
  unfold notePoll
  split <;> simp

@[simp] theorem restartFault_pool (i : SlotIx) (s : State) : SamePool s (restartFault i s) := by
  simp [restartFault]

@[simp] theorem applyCharge_pool (c : ChargeSettings) (s : State) : SamePool s (applyCharge c s) := by
  have hevaluated := foldl_pool (fun t r => evaluate_pool r t) (every 4)
  have hjudged := foldl_pool (fun t u => judgeUnit_pool u t) (every 256)
  unfold applyCharge
  dsimp only
  repeat' split
  all_goals simp [hevaluated, hjudged]

/-! ## The read path and emergency's players (08, 09, 10) -/

@[simp] theorem meetReads_pool (s : State) : SamePool s (meetReads s) := by
  unfold meetReads
  split <;> simp

/-! ## The store (08) -/

@[simp] theorem setBlock_pool (b : BlockNo) (st : BlockState) (s : State) : SamePool s (setBlock b st s) := by
  unfold setBlock
  split <;> simp

@[simp] theorem storeFault_pool (cause clip : Nat) (b : BlockNo) (s : State) : SamePool s (storeFault cause clip b s) :=
  queueNotice_pool _ _ _ s

@[simp] theorem failBlocks_pool (clip : Nat) (bs : List BlockNo) (s : State) : SamePool s (failBlocks clip bs s) :=
  foldl_pool (fun t b => by simp [failBlock]) bs s

@[simp] theorem beginErasing_pool (s : State) : SamePool s (beginErasing s) := by
  simp [beginErasing]

@[simp] theorem endBatch_pool (outcome : SaveOutcome) (s : State) : SamePool s (endBatch outcome s) := by
  unfold endBatch
  dsimp only
  split
  · split <;> simp [reportErased]
  · simp

@[simp] theorem leaveClip_pool (b : BlockNo) (s : State) : SamePool s (leaveClip b s) := by
  simp [leaveClip, countErase]

@[simp] theorem stopErase_pool (s : State) : SamePool s (stopErase s) := by
  unfold stopErase
  split <;> simp

@[simp] theorem programFor_pool (q : Req) (job : ProgramJob) (cells : List (Nat × Byte)) (s : State) :
    SamePool s (programFor q job cells s).1 := by
  simp [programFor, startProgram]

@[simp] theorem appendTo_pool (q : Req) (c : Clip) (last : BlockNo) (codes : List Byte) (s : State) :
    SamePool s (appendTo q c last codes s).1 := by
  unfold appendTo
  repeat' split
  all_goals simp

@[simp] theorem applyJob_pool (good : Bool) (job : ProgramJob) (s : State) : SamePool s (applyJob good job s) := by
  unfold applyJob
  repeat' split
  all_goals simp [updClip]

@[simp] theorem answerJob_pool (port : Option PortId) (a : Answer) (s : State) : SamePool s (answerJob port a s) := by
  cases port <;> simp [answerJob]

@[simp] theorem leaveProgramming_pool (s : State) : SamePool s (leaveProgramming s) := by
  unfold leaveProgramming
  dsimp only
  split <;> simp

@[simp] theorem joinBatch_pool (b : BlockNo) (s : State) : SamePool s (joinBatch b s) := by
  unfold joinBatch
  repeat' split
  all_goals simp

@[simp] theorem meetWaiters_pool (s : State) : SamePool s (meetWaiters s) := by
  unfold meetWaiters
  split <;> simp

@[simp] theorem failMark_pool (b : BlockNo) (s : State) : SamePool s (failMark b s) := storeFault_pool _ _ b s

@[simp] theorem endMarks_pool (faults : List (Nat × Byte)) (s : State) : SamePool s (endMarks faults s) := by
  have hmarks := foldl_pool (fun t (e : BatchEntry) => setBlock_pool e.block .dirty t) s.store.batch
  have hfails := foldl_pool fun t b => failMark_pool b t
  simp [endMarks, hmarks, hfails]

@[simp] theorem judgeErase_pool (good : Bool) (b : BlockNo) (s : State) : SamePool s (judgeErase good b s) := by
  cases good <;> simp [judgeErase, countErase]

@[simp] theorem endErase_pool (b : BlockNo) (left : List (Nat × Byte)) (s : State) : SamePool s (endErase b left s) := by
  unfold endErase
  dsimp only
  split <;> simp [programRecord, nextBlock, leaveBatch]

@[simp] theorem completeSuspension_pool (s : State) : SamePool s (completeSuspension s) := by
  unfold completeSuspension
  dsimp only
  split <;> simp

@[simp] theorem leaveMark_pool (b : BlockNo) (s : State) : SamePool s (leaveMark b s) := by
  unfold leaveMark
  split <;> simp

@[simp] theorem dropEntries_pool (g : Fin 16) (s : State) : SamePool s (dropEntries g s) := by
  have hfold := foldl_pool (fun t (e : BatchEntry) => leaveMark_pool e.block t) (s.store.batch.filter (isDropped g)) s
  unfold dropEntries
  dsimp only
  split <;> exact hfold

@[simp] theorem dropInHand_pool (s : State) : SamePool s (dropInHand s) := by
  unfold dropInHand
  dsimp only
  repeat' split
  all_goals simp

@[simp] theorem dropUnkeyed_pool (g : Fin 16) (s : State) : SamePool s (dropUnkeyed g s) := by
  unfold dropUnkeyed spoilDropped
  repeat' split
  all_goals simp

@[simp] theorem startSave_pool (f : SaveForm) (s : State) : SamePool s (startSave f s) := by
  simp [startSave]

end Sys2Proof.Machine
end

section
/-! PROOFS. A law of the player pool (06, 09, 10): what a predicate has to keep of the pool's own operations so that every command keeps it. The
commands are walked once here, for every such law. -/

namespace Sys2Proof.Machine

/-! ## The law -/

/-- A predicate of the pool's records (channels, players, emergency control, the read in service) that each operation which writes them keeps. -/
structure PoolLaw (P : State → Prop) : Prop where
  samePool : ∀ {s t}, SamePool s t → P s → P t
  setBound : ∀ (c : ChanNo) (g : Option GroupNo) {s}, P s → P (setBound c g s)
  decideChannel : ∀ (c : ChanNo) {s}, P s → P (decideChannel c s)
  setChannelTo : ∀ (c : ChanNo) (f : ChannelConfig) {s}, P s → P (setChannelTo c f s)
  announce : ∀ {p : PlayerNo} {taken : Bool} (clip loops : Nat) (cs : List ChanNo) {s}, isRaised s = false →
    announcePlayer s = some (p, taken) → P s → P (announce p taken clip loops cs s)
  stop : ∀ {p : PlayerNo} {s}, (s.player p).owner = some .announce → P s → P (endPlay p .stopped s)
  tellSealed : ∀ (good : Bool) (job : ProgramJob) {s}, P s → P (tellSealed good job s)
  mixFrame : ∀ (codes : Table Half 16) {s}, P s → P (mixFrame codes s)
  serveRead : ∀ {q : Fin 7} {s}, s.path.inService = none → nextWaiting s = some q → P s → P (serveRead q s)
  serveRefill : ∀ {p : PlayerNo} {s}, s.path.inService.bind playerAt = some p → P s → P (serveRefill p s)
  freePath : ∀ {s}, s.path.inService = some 6 → P s → P (freePath s)
  setInput : ∀ (active : Bool) {s : State}, P s → P { s with emergency := { s.emergency with input := active } }
  raise : ∀ (cause : RaiseCause) {s}, isRaised s = false → P s → P (raise cause s)
  clear : ∀ {r : Raised} {s}, s.emergency.raised = some r → P s → P (clear r s)
  boot : ∀ (kind : ResetKind) (straps : Straps) (s : State), P (boot kind straps s)

/-- A command goes on to a next state, with the pool's records as before. -/
def LeavesPool (s : State) (o : Host.Outcome State Fault Refusal) : Prop := ∃ t, o = .next t ∧ SamePool s t

/-- A command goes on to a next state, which meets a predicate where the state before did. -/
def Keeps (P : State → Prop) (s : State) (o : Host.Outcome State Fault Refusal) : Prop := ∃ t, o = .next t ∧ (P s → P t)

/-- What a request leaves of the pool is what its owner's body leaves, or it has not been taken. -/
theorem serve_pool (cmd : Command) (q : Req) (body : State → State × Option Answer) (s : State) :
    SamePool s (serve cmd q body s) ∨ SamePool (body s).1 (serve cmd q body s) := by
  unfold serve
  split
  · split
    · right
      split
      · next heq => rw [heq]; exact answerPort_pool _ _ _
      · next heq => rw [heq]; exact keepWaiting_pool _ _
    · exact .inl (answerPort_pool _ _ _)
  · exact .inl (by simp)

theorem serve_leavesPool {cmd : Command} {q : Req} {body : State → State × Option Answer} {s : State}
    (h : SamePool s (body s).1) : LeavesPool s (.next (serve cmd q body s)) :=
  ⟨_, rfl, (serve_pool cmd q body s).elim id h.trans⟩

/-! ## Requests that leave the pool alone -/

section
variable (q : Req) (s : State)

theorem execSetPortOptions_leavesPool (port : Nat) (mask : BitVec 24) (attention invert : Bool) :
    LeavesPool s (execSetPortOptions q port mask attention invert s) := by
  refine serve_leavesPool ?_
  dsimp only
  repeat' split
  all_goals simp

theorem execEnrolUnit_leavesPool (u : UnitNo) (kind : Option UnitKind) (serial : BitVec 32) (marks : Byte) (cycles : Half) :
    LeavesPool s (execEnrolUnit q u kind serial marks cycles s) := by
  refine serve_leavesPool ?_
  dsimp only
  repeat' split
  all_goals simp

theorem execRetireUnit_leavesPool (u : UnitNo) : LeavesPool s (execRetireUnit q u s) := by
  refine serve_leavesPool ?_
  dsimp only
  repeat' split
  all_goals simp

theorem execUnenrolUnit_leavesPool (u : UnitNo) : LeavesPool s (execUnenrolUnit q u s) := by
  refine serve_leavesPool ?_
  dsimp only
  repeat' split
  all_goals simp

theorem execSetUnitMarks_leavesPool (u : UnitNo) (clearMask setMask : Byte) :
    LeavesPool s (execSetUnitMarks q u clearMask setMask s) := by
  refine serve_leavesPool ?_
  dsimp only
  repeat' split
  all_goals simp

theorem execIssueUnit_leavesPool (group channel : Nat) : LeavesPool s (execIssueUnit q group channel s) := by
  refine serve_leavesPool ?_
  repeat' split
  all_goals simp

theorem execReadChannelPlan_leavesPool (part : Nat) : LeavesPool s (execReadChannelPlan q part s) := by
  refine serve_leavesPool ?_
  dsimp only
  repeat' split
  all_goals simp

theorem execForceMonitor_leavesPool (r k : Nat) (m : Monitors) : LeavesPool s (execForceMonitor q r k m s) := by
  refine serve_leavesPool ?_
  repeat' split
  all_goals simp

theorem execClearSlotFault_leavesPool (r k : Nat) : LeavesPool s (execClearSlotFault q r k s) := by
  refine serve_leavesPool ?_
  repeat' split
  all_goals simp

theorem execReadDirectory_leavesPool (start : Nat) (wide : Bool) : LeavesPool s (execReadDirectory q start wide s) := by
  refine serve_leavesPool ?_
  dsimp only
  repeat' split
  all_goals simp

theorem execBeginClip_leavesPool (clip : Nat) (l : Lang) (cls : Option ClipClass) : LeavesPool s (execBeginClip q clip l cls s) := by
  refine serve_leavesPool ?_
  repeat' split
  all_goals simp

theorem execAppendAudio_leavesPool (clip : Nat) (codes : List Byte) : LeavesPool s (execAppendAudio q clip codes s) := by
  refine serve_leavesPool ?_
  repeat' split
  all_goals simp

theorem execSealClip_leavesPool (clip : Nat) : LeavesPool s (execSealClip q clip s) := by
  refine serve_leavesPool ?_
  dsimp only
  repeat' split
  all_goals simp

theorem execDeleteClip_leavesPool (clip : Nat) : LeavesPool s (execDeleteClip q clip s) := by
  refine serve_leavesPool ?_
  dsimp only
  repeat' split
  all_goals simp [withdraw, updClip]

theorem execEraseBlock_leavesPool (block : Nat) : LeavesPool s (execEraseBlock q block s) := by
  refine serve_leavesPool ?_
  dsimp only
  repeat' split
  all_goals simp

theorem execSuspendStore_leavesPool : LeavesPool s (execSuspendStore q s) := by
  refine serve_leavesPool ?_
  dsimp only
  repeat' split
  all_goals simp [awaitSuspension]

theorem execResumeStore_leavesPool : LeavesPool s (execResumeStore q s) := by
  refine serve_leavesPool ?_
  dsimp only
  repeat' split
  all_goals simp

theorem execUnprotectGroup_leavesPool (group : Nat) : LeavesPool s (execUnprotectGroup q group s) := by
  refine serve_leavesPool ?_
  dsimp only
  repeat' split
  all_goals simp

theorem execSaveSiteRecord_leavesPool (form : Option SaveForm) : LeavesPool s (execSaveSiteRecord q form s) := by
  unfold execSaveSiteRecord
  split
  · refine serve_leavesPool ?_
    dsimp only
    repeat' split
    all_goals simp
  · exact ⟨s, rfl, by simp⟩

/-! ## Events that leave the pool alone -/

theorem execRackAnswer_leavesPool (r : RackNo) (rds : Table Reading 16) : LeavesPool s (execRackAnswer r rds s) := by
  refine ⟨_, rfl, ?_⟩
  dsimp only
  repeat' split
  all_goals simp

theorem execBlockEraseDone_leavesPool (left : List (Nat × Byte)) : LeavesPool s (execBlockEraseDone left s) := by
  refine ⟨_, rfl, ?_⟩
  repeat' split
  all_goals simp

theorem execRecordSaveDone_leavesPool : LeavesPool s (execRecordSaveDone s) := by
  refine ⟨_, rfl, ?_⟩
  dsimp only
  repeat' split
  all_goals simp

theorem takeWindowEnd_pool : SamePool s (takeWindowEnd s) := (SameButPorts.pool (takeWindowEnd_frame s) :)

theorem openPorts_pool : SamePool s (openPorts s) := by
  simp [openPorts]

theorem execMixWindowEnd_leavesPool : LeavesPool s (execMixWindowEnd s) := by
  refine ⟨_, rfl, ?_⟩
  split
  · exact takeWindowEnd_pool s
  · simp

end

/-! ## What the roster does to a law of the pool (04, 05, 06) -/

/-- A fold of steps that each keep a predicate keeps it. -/
theorem foldl_keeps {P : State → Prop} {α : Type} {f : State → α → State} (h : ∀ s a, P s → P (f s a)) (l : List α) {s : State}
    (hs : P s) : P (l.foldl f s) :=
  List.foldlRecOn l f hs fun t ht a _ => h t a ht

namespace PoolLaw

variable {P : State → Prop} (law : PoolLaw P)
include law

theorem decideEach (cs : List ChanNo) {s : State} (h : P s) : P (decideEach cs s) :=
  foldl_keeps (fun _ c ht => law.decideChannel c ht) cs h

theorem bindChannel (c : ChanNo) (g : GroupNo) {s : State} (h : P s) : P (bindChannel c g s) :=
  law.decideChannel c (law.setBound c (some g) h)

theorem unbindChannel (c : ChanNo) {s : State} (h : P s) : P (unbindChannel c s) := law.decideChannel c (law.setBound c none h)

theorem takeLinks (rs : List LinkReport) {s : State} (h : P s) : P (takeLinks rs s) := by
  have hlinked : P { s with links := applyLinks rs s.links } := law.samePool (by simp) h
  exact law.decideEach _ (law.samePool (foldl_pool (fun t g => reportLostGuide_pool s g t) _ _) hlinked)

theorem takePresence (codes : Table Half 16) {s : State} (h : P s) : P (takePresence codes s) := by
  have hheard : P { s with presence := hearAll codes s.presence } := law.samePool (by simp) h
  exact law.decideEach _ hheard

theorem raiseByInput {s : State} (h : P s) : P (raiseByInput s) := by
  unfold Machine.raiseByInput
  split
  · next hinput =>
    simp only [Bool.and_eq_true, Bool.not_eq_true'] at hinput
    exact law.raise .input hinput.2 h
  · exact h

theorem endProgram (op : ProgramOp) (faults : List (Nat × Byte)) {s : State} (h : P s) : P (endProgram op faults s) := by
  unfold Machine.endProgram
  dsimp only
  exact law.tellSealed _ _ (law.samePool (by simp) h)

theorem endGroup (g : GroupNo) {s : State} (h : P s) : P (endGroup g s).1 := by
  have hreleased : P (releaseChannel (s.group g) (releaseMic (s.group g) s)) := by
    have hmic := law.samePool (releaseMic_pool (s.group g) s) h
    unfold releaseChannel
    split
    · exact law.unbindChannel _ hmic
    · exact hmic
  have hparked := law.samePool (parkMic_pool (s.group g) _) hreleased
  exact law.samePool (by simp [Machine.endGroup]) hparked

theorem closeLease (u : UnitNo) {s : State} (h : P s) : P (closeLease u s).1 := by
  have hparked : P (park u (clearLease u s)) := law.samePool (by simp) h
  unfold Machine.closeLease
  dsimp only
  split
  · split
    · exact law.endGroup _ hparked
    · exact hparked
  · exact hparked

theorem openAs (g : GroupNo) (u : UnitNo) (c : ChanNo) {s : State} (h : P s) : P (openAs g u c s) :=
  law.samePool (enqueueOrder_pool ..) (law.bindChannel c g (law.samePool (by simp) h))

theorem moveTo (g : GroupNo) (old new : ChanNo) {s : State} (h : P s) : P (moveTo g old new s).2 := by
  have hrebound : P (rebind g old new s) := law.bindChannel new g (law.unbindChannel old (law.samePool (by simp) h))
  have hmic : P (moveMic (s.group g).mic (airCode s.siteCode new) (⟨0, 0, 0⟩, rebind g old new s)).2 :=
    law.samePool (by simp) hrebound
  simp only [Machine.moveTo]
  exact law.samePool (foldl_moveMember_pool ..) hmic

theorem returnUnit (u : UnitNo) (i : SlotIx) {s : State} (h : P s) : P (returnUnit u i s) := by
  have hclosed := law.closeLease u (law.samePool (standIn_pool u i s) h)
  exact law.samePool (by simp [Machine.returnUnit]) hclosed

theorem conflictArrival (u : UnitNo) (i j : SlotIx) {s : State} (h : P s) : P (conflictArrival u i j s) := by
  have hdisplaced := law.samePool (displace_pool j u s) h
  unfold Machine.conflictArrival
  dsimp only
  split
  · exact law.samePool (by simp) (law.closeLease u hdisplaced)
  · exact law.samePool (by simp) hdisplaced

theorem arrival (u : UnitNo) (i : SlotIx) {s : State} (h : P s) : P (arrival u i s) := by
  have hloose := law.samePool (looseArrival_pool u i s) h
  unfold Machine.arrival
  dsimp only
  split
  · exact law.returnUnit u i h
  · exact hloose
  all_goals
    split
    · split
      · exact h
      · exact law.conflictArrival u i _ h
    · exact hloose

theorem handArrival (i : SlotIx) (prev now : Occupant) {s : State} (h : P s) : P (handArrival i prev now s) := by
  unfold Machine.handArrival
  split
  · split
    · exact h
    · exact law.arrival _ i h
  · exact h

theorem completeIdentify (i : SlotIx) (serial : BitVec 32) {s : State} (h : P s) : P (completeIdentify i serial s) := by
  have hhanded := fun prev now => law.handArrival i prev now
    (law.samePool (t := (settlePrevious prev now (reportStranger i now s)).updSlot i fun sl =>
      { sl with occupant := now, previous := .none, attempting := false }) (by simp) h)
  exact law.samePool (by simp [Machine.completeIdentify]) (hhanded (s.slot i).previous (occupantOf s serial))

/-- The end of a latch window keeps a law when what is done at the slot leaves the pool. -/
theorem endWindow (u : UnitNo) (i : SlotIx) (cause : Nat) {atSlot : State → State} (hslot : ∀ t, SamePool t (atSlot t)) {s : State}
    (h : P s) : P (endWindow u i cause atSlot s) := by
  have hclosed := law.closeLease u (law.samePool (standIn_pool u i s) h)
  exact law.samePool (by simp [Machine.endWindow, hslot]) hclosed

theorem expireWindow (i : SlotIx) {s : State} (h : P s) : P (expireWindow i s) := by
  unfold Machine.expireWindow
  split
  · exact law.endWindow _ i 0 (relatch_pool _ i) h
  · exact law.samePool (changeSlot_pool i _ s) h

theorem loseSlot (i : SlotIx) {s : State} (h : P s) : P (loseSlot i s) := by
  unfold Machine.loseSlot
  dsimp only
  split
  · exact law.samePool (by simp) h
  · exact law.endWindow _ i 1 (fun t => by simp) h
  · exact law.samePool (by simp) h

theorem loseRack (r : RackNo) {s : State} (h : P s) : P (loseRack r s) := by
  have hlost : P (s.updRack r fun a => { a with online := false, misses := 3, grants := [], waits := [] }) := law.samePool (by simp) h
  exact foldl_keeps (fun _ i ht => law.loseSlot i ht) (slotsOf r) hlost

/-! ## Every command -/

theorem leaves {s : State} {o : Host.Outcome State Fault Refusal} (h : LeavesPool s o) : Keeps P s o := by
  obtain ⟨t, ho, hsame⟩ := h
  exact ⟨t, ho, law.samePool hsame⟩

theorem serve {cmd : Command} {q : Req} {body : State → State × Option Answer} {s : State} (h : P s → P (body s).1) :
    Keeps P s (.next (serve cmd q body s)) := by
  refine ⟨_, rfl, fun hs => ?_⟩
  obtain hsame | hsame := serve_pool cmd q body s
  · exact law.samePool hsame hs
  · exact law.samePool hsame (h hs)

section
variable (q : Req) (s : State)

theorem execOpenGroup (u : UnitNo) (channel : Nat) : Keeps P s (execOpenGroup q u channel s) := by
  refine law.serve fun h => ?_
  split
  · exact h
  · split
    · exact h
    · exact law.openAs _ u _ h
    · exact h

theorem execCloseGroup (group : Nat) : Keeps P s (execCloseGroup q group s) := by
  refine law.serve fun h => ?_
  dsimp only
  split
  · exact h
  · next g _ =>
    split
    · exact h
    · split
      · exact law.samePool (queueEmpty_pool _ _) (law.endGroup g (law.samePool (by simp) h))
      · exact law.samePool (by simp) h
    · exact law.samePool (by simp) h

theorem execMoveGroup (group channel : Nat) : Keeps P s (execMoveGroup q group channel s) := by
  refine law.serve fun h => ?_
  dsimp only
  split
  · split
    · exact h
    · exact h
    · split
      · exact h
      · split
        · exact h
        · split
          · exact h
          · rw [done_fst]
            exact law.moveTo _ _ _ h
  · exact h

theorem execReportGuideLinks (rs : List LinkReport) : Keeps P s (execReportGuideLinks q rs s) := by
  refine law.serve fun h => ?_
  dsimp only
  split
  · exact h
  · split
    · exact h
    · exact law.takeLinks rs h

theorem execSetChannel (channel : Nat) (f : ChannelForm) : Keeps P s (execSetChannel q channel f s) := by
  refine law.serve fun h => ?_
  dsimp only
  split
  · exact h
  · split
    · split
      · exact h
      · exact h
      · exact law.setChannelTo _ _ h
    · exact h

theorem execStartAnnouncement (clip loops : Nat) (channels : List Nat) :
    Keeps P s (execStartAnnouncement q clip loops channels s) := by
  refine law.serve fun h => ?_
  dsimp only
  split
  · exact h
  · split
    · exact h
    · split
      · exact h
      · split
        · exact h
        · split
          · exact h
          · next hclear =>
            split
            · exact h
            · next htaken => exact law.announce clip loops _ (Bool.eq_false_iff.2 hclear) htaken h

theorem execStopPlayer (player : Nat) : Keeps P s (execStopPlayer q player s) := by
  refine law.serve fun h => ?_
  dsimp only
  split
  · exact h
  · split
    · exact h
    · split
      · next howner => exact law.stop howner h
      · exact h

theorem execRaiseEmergency : Keeps P s (execRaiseEmergency q s) := by
  refine law.serve fun h => ?_
  dsimp only
  split
  · exact h
  · next hclear => exact law.raise .request (Bool.eq_false_iff.2 hclear) h

theorem execClearEmergency : Keeps P s (execClearEmergency q s) := by
  refine law.serve fun h => ?_
  dsimp only
  split
  · exact h
  · next hraised =>
    split
    · exact h
    · rw [done_fst]
      exact law.clear hraised h

theorem execMissedPoll (r : RackNo) : Keeps P s (execMissedPoll r s) := by
  refine ⟨_, rfl, fun h => ?_⟩
  have hnoted := law.samePool (notePoll_pool r false s) h
  dsimp only
  split
  · exact h
  · split
    · split
      · exact law.samePool (by simp) hnoted
      · exact law.loseRack r hnoted
    · exact law.samePool (by simp) hnoted

theorem execSerialArrived (r : RackNo) (k : SlotNo) (serial : BitVec 32) : Keeps P s (execSerialArrived r k serial s) := by
  refine ⟨_, rfl, fun h => ?_⟩
  split
  · exact law.completeIdentify _ serial h
  · exact h

theorem execIdentifyTimeout (r : RackNo) (k : SlotNo) : Keeps P s (execIdentifyTimeout r k s) := by
  refine ⟨_, rfl, fun h => ?_⟩
  have hcounted : P (countAttempt (slotIx r k) s) := law.samePool (by simp [countAttempt]) h
  dsimp only
  split
  · split
    · exact hcounted
    · exact law.completeIdentify _ 0 hcounted
  · exact h

theorem execLatchWindowExpiry (r : RackNo) (k : SlotNo) : Keeps P s (execLatchWindowExpiry r k s) := by
  refine ⟨_, rfl, fun h => ?_⟩
  split
  · exact law.expireWindow _ h
  · exact h

theorem execReadPathServe : Keeps P s (execReadPathServe s) := by
  refine ⟨_, rfl, fun h => ?_⟩
  split
  · next hfree =>
    simp only [Bool.and_eq_true, Option.isNone_iff_eq_none] at hfree
    split
    · next hnext => exact law.serveRead hfree.1 hnext h
    · exact h
  · exact h

theorem execRefillLand : Keeps P s (execRefillLand s) := by
  refine ⟨_, rfl, fun h => ?_⟩
  split
  · next hserved => exact law.serveRefill hserved h
  · exact h

theorem execReadStoreComplete : Keeps P s (execReadStoreComplete s) := by
  refine ⟨_, rfl, fun h => ?_⟩
  split
  · split
    · next hserved =>
      have htaken : P (s.updPath fun t => { t with raw := none }) := law.samePool (by simp) h
      exact law.samePool (answerPort_pool ..) (law.freePath hserved htaken)
    · exact h
  · exact h

theorem execProgramDone (faults : List (Nat × Byte)) : Keeps P s (execProgramDone faults s) := by
  refine ⟨_, rfl, fun h => ?_⟩
  split
  · split
    · exact law.endProgram _ faults h
    · exact h
  · exact h

theorem execAudioFrame (codes : Table Half 16) : Keeps P s (execAudioFrame codes s) := by
  refine ⟨_, rfl, fun h => ?_⟩
  split
  · exact h
  · exact law.samePool (by simp [sendOutputs]) h
  · have hwindow : P (if windowDue s then takeWindowEnd s else s) := by
      split
      · exact law.samePool (takeWindowEnd_pool s) h
      · exact h
    exact law.mixFrame codes (law.takePresence codes (law.samePool (by simp [sendOutputs]) hwindow))

theorem execEvacuationInputChange (active : Bool) : Keeps P s (execEvacuationInputChange active s) := by
  refine ⟨_, rfl, fun h => ?_⟩
  have hinput := law.setInput active h
  dsimp only
  split
  · exact h
  · exact hinput
  · split
    · exact hinput
    · exact law.raiseByInput hinput

theorem execStartupEnd : Keeps P s (execStartupEnd s) := by
  refine ⟨_, rfl, fun h => ?_⟩
  split
  · exact law.raiseByInput (law.samePool (openPorts_pool _) (law.decideEach _ h))
  · exact h

theorem execResetLineRelease (straps : Straps) : Keeps P s (execResetLineRelease straps s) := by
  refine ⟨_, rfl, fun h => ?_⟩
  split
  · exact law.boot _ _ s
  · exact h

end

theorem exec (i : Instr) (s : State) : Keeps P s (exec i s) :=
  match i with
  | .identify q => law.leaves (serve_leavesPool (by simp))
  | .fetchNotices q => law.leaves (serve_leavesPool (by simp))
  | .readUnit q u => law.leaves (serve_leavesPool (by simp))
  | .selectUnits q p => law.leaves (serve_leavesPool (by dsimp only; split <;> simp))
  | .readGroup q g => law.leaves (serve_leavesPool (by dsimp only; split <;> simp))
  | .readRack q r => law.leaves (serve_leavesPool (by dsimp only; split <;> simp))
  | .readChannelPlan q part => law.leaves (execReadChannelPlan_leavesPool q s part)
  | .readDirectory q start wide => law.leaves (execReadDirectory_leavesPool q s start wide)
  | .issueUnit q g c => law.leaves (execIssueUnit_leavesPool q s g c)
  | .openGroup q u c => law.execOpenGroup q s u c
  | .closeGroup q g => law.execCloseGroup q s g
  | .moveGroup q g c => law.execMoveGroup q s g c
  | .setUnitMarks q u clearMask setMask => law.leaves (execSetUnitMarks_leavesPool q s u clearMask setMask)
  | .reportUnits q rs => law.leaves (serve_leavesPool (by dsimp only; split <;> simp))
  | .reportGuideLinks q rs => law.execReportGuideLinks q s rs
  | .fetchTuneOrders q => law.leaves (serve_leavesPool (by simp))
  | .readTuneMap q page restart => law.leaves (serve_leavesPool (by dsimp only; split <;> simp))
  | .enrolUnit q u kind serial marks cycles => law.leaves (execEnrolUnit_leavesPool q s u kind serial marks cycles)
  | .retireUnit q u => law.leaves (execRetireUnit_leavesPool q s u)
  | .unenrolUnit q u => law.leaves (execUnenrolUnit_leavesPool q s u)
  | .setRackBudget q r budget => law.leaves (serve_leavesPool (by dsimp only; split <;> simp))
  | .setChargeSettings q c => law.leaves (serve_leavesPool (by simp))
  | .setIssueSettings q c => law.leaves (serve_leavesPool (by simp [applyIssue]))
  | .forceMonitor q r k m => law.leaves (execForceMonitor_leavesPool q s r k m)
  | .clearSlotFault q r k => law.leaves (execClearSlotFault_leavesPool q s r k)
  | .setChannel q c f => law.execSetChannel q s c f
  | .setTime q t => law.leaves (serve_leavesPool (by simp))
  | .startAnnouncement q clip loops cs => law.execStartAnnouncement q s clip loops cs
  | .stopPlayer q p => law.execStopPlayer q s p
  | .raiseEmergency q => law.execRaiseEmergency q s
  | .clearEmergency q => law.execClearEmergency q s
  | .beginClip q clip l cls => law.leaves (execBeginClip_leavesPool q s clip l cls)
  | .appendAudio q clip codes => law.leaves (execAppendAudio_leavesPool q s clip codes)
  | .sealClip q clip => law.leaves (execSealClip_leavesPool q s clip)
  | .deleteClip q clip => law.leaves (execDeleteClip_leavesPool q s clip)
  | .eraseBlock q b => law.leaves (execEraseBlock_leavesPool q s b)
  | .suspendStore q => law.leaves (execSuspendStore_leavesPool q s)
  | .resumeStore q => law.leaves (execResumeStore_leavesPool q s)
  | .readStore q b offset length => law.leaves (serve_leavesPool (by split <;> simp))
  | .protectGroup q g => law.leaves (serve_leavesPool (by dsimp only; split <;> simp))
  | .unprotectGroup q g => law.leaves (execUnprotectGroup_leavesPool q s g)
  | .saveSiteRecord q form => law.leaves (execSaveSiteRecord_leavesPool q s form)
  | .setPortOptions q port mask attention invert => law.leaves (execSetPortOptions_leavesPool q s port mask attention invert)
  | .resetPart q => law.serve fun _ => law.boot _ _ s
  | .frameWrite p bs => law.leaves ⟨_, rfl, by split <;> simp⟩
  | .readTransfer p n => law.leaves ⟨_, rfl, by split <;> simp⟩
  | .ignoredTransfer _ _ => ⟨s, rfl, id⟩
  | .rackPoll => law.leaves ⟨_, rfl, by split <;> simp⟩
  | .rackAnswer r rds => law.leaves (execRackAnswer_leavesPool s r rds)
  | .missedPoll r => law.execMissedPoll s r
  | .slotReading r k rd => law.leaves ⟨_, rfl, by split <;> simp⟩
  | .serialArrived r k serial => law.execSerialArrived s r k serial
  | .identifyTimeout r k => law.execIdentifyTimeout s r k
  | .latchWindowExpiry r k => law.execLatchWindowExpiry s r k
  | .siteClockAdvance => law.leaves ⟨_, rfl, by split <;> simp⟩
  | .audioFrame codes => law.execAudioFrame s codes
  | .mixWindowEnd => law.leaves (execMixWindowEnd_leavesPool s)
  | .readPathServe => law.execReadPathServe s
  | .refillLand => law.execRefillLand s
  | .readStoreComplete => law.execReadStoreComplete s
  | .programDone faults => law.execProgramDone s faults
  | .gatheringWindowExpiry => law.leaves ⟨_, rfl, by split <;> simp⟩
  | .pendingMarksDone faults => law.leaves ⟨_, rfl, by split <;> simp⟩
  | .blockEraseDone left => law.leaves (execBlockEraseDone_leavesPool s left)
  | .suspensionComplete => law.leaves ⟨_, rfl, by split <;> simp⟩
  | .quietTimerExpiry => law.leaves ⟨_, rfl, by split <;> simp⟩
  | .recordSaveDone => law.leaves (execRecordSaveDone_leavesPool s)
  | .evacuationInputChange active => law.execEvacuationInputChange s active
  | .serviceKeyChange _ => law.leaves ⟨_, rfl, by simp⟩
  | .powerOn straps => ⟨_, rfl, fun _ => law.boot _ _ s⟩
  | .resetLineAssert => ⟨_, rfl, fun _ => law.samePool (by simp) (law.boot .resetLine s.straps s)⟩
  | .resetLineRelease straps => law.execResetLineRelease s straps
  | .startupEnd => law.execStartupEnd s

/-- A step keeps every law of the pool: it is the front command on the state that holds the rest of the queue. -/
theorem step {s t : State} (h : P s) (ht : step s = .next t) : P t := by
  unfold Machine.step at ht
  split at ht
  · cases ht
    exact h
  · next i rest _ =>
    obtain ⟨t', ho, hkeeps⟩ := law.exec i { s with pending := rest }
    rw [ho] at ht
    cases ht
    exact hkeeps (law.samePool (by simp) h)

end PoolLaw

end Sys2Proof.Machine
end

section
/-! PROOFS. What the pool's operations write (09 R160, R162, R165, R166): the players' records, the channels' hold players, and nothing of
emergency control or of the read in service. -/

namespace Sys2Proof.Machine

/-! ## Placing a read (09 R162) -/

@[simp] theorem placeRead_emergency (p : PlayerNo) (s : State) : (placeRead p s).emergency = s.emergency := by
  unfold placeRead
  split <;> simp

@[simp] theorem placeRead_inService (p : PlayerNo) (s : State) : (placeRead p s).path.inService = s.path.inService := by
  unfold placeRead
  split <;> simp

theorem placeRead_player (p : PlayerNo) (s : State) (k : PlayerNo) :
    (placeRead p s).player k =
      if p = k ∧ refillDue (s.player k) = true then { s.player k with read := .waiting } else s.player k := by
  have hmet : ∀ t : State, (meetReads t).player k = t.player k := fun t => by simp [State.player]
  unfold placeRead
  by_cases hk : p = k
  · subst hk
    split
    · next hdue => simp [hmet, hdue]
    · next hdue => simp [hdue]
  · split <;> simp [hmet, hk, State.updPlayer_player]

/-! ## Hold players (09 R160) -/

@[simp] theorem setHoldPlayer_players (v : Option PlayerNo) (cs : List ChanNo) (s : State) :
    (setHoldPlayer v cs s).players = s.players := rfl

@[simp] theorem setHoldPlayer_player (v : Option PlayerNo) (cs : List ChanNo) (s : State) (k : PlayerNo) :
    (setHoldPlayer v cs s).player k = s.player k := rfl

@[simp] theorem setHoldPlayer_emergency (v : Option PlayerNo) (cs : List ChanNo) (s : State) :
    (setHoldPlayer v cs s).emergency = s.emergency := rfl

@[simp] theorem setHoldPlayer_path (v : Option PlayerNo) (cs : List ChanNo) (s : State) : (setHoldPlayer v cs s).path = s.path := rfl

theorem setHoldPlayer_holdPlayer (v : Option PlayerNo) (cs : List ChanNo) (s : State) (c : ChanNo) :
    ((setHoldPlayer v cs s).channel c).holdPlayer = if c ∈ cs then v else (s.channel c).holdPlayer := by
  induction cs generalizing s with
  | nil => simp [setHoldPlayer]
  | cons d rest ih =>
    refine (ih { s with channels := s.channels.upd d fun ch => { ch with holdPlayer := v } }).trans ?_
    simp only [State.channel, Table.get_upd, List.mem_cons]
    by_cases hrest : c ∈ rest
    · simp [hrest]
    · by_cases hd : d = c
      · simp [hd]
      · simp [hrest, hd, Ne.symm hd]

/-! ## Allocation (09 R166) -/

section
variable (p : PlayerNo) (clip : Nat) (o : Owner) (loops : Nat) (cs : List ChanNo) (s : State)

@[simp] theorem allocate_emergency : (allocate p clip o loops cs s).emergency = s.emergency := by
  unfold allocate
  dsimp only
  split <;> simp

@[simp] theorem allocate_inService : (allocate p clip o loops cs s).path.inService = s.path.inService := by
  unfold allocate
  dsimp only
  split <;> simp

/-- The record of an allocated player: its first read waits, unless a read in service outlives its former play. -/
def taken (clip : Nat) (o : Owner) (loops : Nat) (cs : List ChanNo) (q : Player) : Player :=
  { allocated clip o loops cs q with read := if q.read = .inService then .inService else .waiting }

theorem allocate_player (k : PlayerNo) :
    (allocate p clip o loops cs s).player k = if p = k then taken clip o loops cs (s.player k) else s.player k := by
  have hplaced : ∀ t : State, t.player p = allocated clip o loops cs (s.player p) → (∀ k, p ≠ k → t.player k = s.player k) →
      (placeRead p t).player k = if p = k then taken clip o loops cs (s.player k) else s.player k := by
    intro t hself hother
    rw [placeRead_player]
    by_cases hk : p = k
    · subst hk
      rw [hself]
      by_cases hserved : (s.player p).read = .inService
      · simp [refillDue, taken, allocated, carriedRead, hserved]
      · simp [refillDue, taken, allocated, carriedRead, hserved]
    · simp [hk, hother k hk]
  have hwritten : ∀ k, p ≠ k → (s.updPlayer p (allocated clip o loops cs)).player k = s.player k := fun k hk => by
    simp [State.updPlayer_player, hk]
  unfold allocate
  dsimp only
  split
  · exact hplaced _ (by simp) hwritten
  · exact hplaced _ (by simp) hwritten

theorem allocate_holdPlayer (c : ChanNo) :
    ((allocate p clip o loops cs s).channel c).holdPlayer =
      if o = .hold ∧ c ∈ cs then some p else (s.channel c).holdPlayer := by
  have hplaced : ∀ t : State, ((placeRead p t).channel c).holdPlayer = (t.channel c).holdPlayer := fun t => by
    simp [State.channel]
  unfold allocate
  dsimp only
  split
  · next hhold => simp [hplaced, setHoldPlayer_holdPlayer, hhold]
  · next hother => simp [hplaced, hother]

end

/-! ## A player made IDLE (09 R165) -/

section
variable (p : PlayerNo) (s : State)

@[simp] theorem clearPlayer_emergency : (clearPlayer p s).emergency = s.emergency := by
  unfold clearPlayer
  dsimp only
  split <;> simp

@[simp] theorem clearPlayer_inService : (clearPlayer p s).path.inService = s.path.inService := by
  unfold clearPlayer
  dsimp only
  split <;> simp

/-- The record of a player made IDLE: a read in service outlives its play. -/
def cleared (q : Player) : Player := { idlePlayer with read := carriedRead q }

theorem clearPlayer_player (k : PlayerNo) :
    (clearPlayer p s).player k = if p = k then cleared (s.player k) else s.player k := by
  unfold clearPlayer
  dsimp only
  by_cases hk : p = k
  · subst hk
    split <;> simp [cleared]
  · split <;> simp [State.updPlayer_player, hk]

theorem clearPlayer_holdPlayer (c : ChanNo) :
    ((clearPlayer p s).channel c).holdPlayer =
      if (s.player p).owner = some .hold ∧ c ∈ (s.player p).channels then none else (s.channel c).holdPlayer := by
  unfold clearPlayer
  dsimp only
  split
  · next hhold => simp [setHoldPlayer_holdPlayer, hhold]
  · next hother => simp [hother]

end

/-! ## Offers and endings (09 R165, R172) -/

/-- An offer leaves a player alone or gives it to HOLD. -/
theorem offerRounds_player (n : Nat) (s : State) (k : PlayerNo) :
    (offerRounds n s).player k = s.player k ∨ ((offerRounds n s).player k).owner = some .hold := by
  induction n generalizing s with
  | zero => exact .inl rfl
  | succ n ih =>
    unfold offerRounds
    split
    · next p clip _ _ =>
      obtain hsame | hhold := ih (allocate p clip .hold 0 (waitingFor s clip) s)
      · rw [hsame, allocate_player]
        split
        · exact .inr rfl
        · exact .inl rfl
      · exact .inr hhold
    · exact .inl rfl

/-- A play that ends leaves its player IDLE and every other player alone, but for those that an offer then gives to HOLD. -/
theorem endPlay_player (p : PlayerNo) (e : PlayEnd) (s : State) (k : PlayerNo) :
    (endPlay p e s).player k = (if p = k then cleared (s.player k) else s.player k)
      ∨ ((endPlay p e s).player k).owner = some .hold := by
  rw [← clearPlayer_player]
  unfold endPlay
  dsimp only
  split
  · exact (offerRounds_player 6 _ k).imp_left fun hsame => hsame.trans (by simp [State.player])
  · exact offerRounds_player 6 _ k

end Sys2Proof.Machine
end

section
/-! PROOFS. Every step keeps the players' buffers bounded and their reads in agreement with the read path (09 R160, R162, 08 R152). -/

namespace Sys2Proof.Machine

/-! ## What keeps the law -/

/-- A player's buffer has not grown, its read is in service as before, and a read newly placed waits with at most 256 codes in the buffer. -/
structure RefillKept (q r : Player) : Prop where
  served : r.read = .inService ↔ q.read = .inService
  length : r.buffer.length ≤ q.buffer.length
  placed : r.read = .waiting → q.read = .waiting ∨ r.buffer.length ≤ 256

theorem RefillKept.refl (q : Player) : RefillKept q q := ⟨Iff.rfl, Nat.le_refl _, .inl⟩

theorem RefillKept.trans {q r u : Player} (h : RefillKept q r) (k : RefillKept r u) : RefillKept q u := by
  refine ⟨k.served.trans h.served, Nat.le_trans k.length h.length, fun hu => ?_⟩
  obtain hr | hshort := k.placed hu
  · exact (h.placed hr).imp_right (Nat.le_trans k.length)
  · exact .inr hshort

/-- No buffer has grown, no read has gone into or out of service, and every read newly placed finds room. -/
structure BuffersKept (s t : State) : Prop where
  inService : t.path.inService = s.path.inService
  player : ∀ k, RefillKept (s.player k) (t.player k)

theorem BuffersKept.refl (s : State) : BuffersKept s s := ⟨rfl, fun k => RefillKept.refl (s.player k)⟩

theorem BuffersKept.trans {s t u : State} (h : BuffersKept s t) (k : BuffersKept t u) : BuffersKept s u :=
  ⟨k.inService.trans h.inService, fun p => (h.player p).trans (k.player p)⟩

theorem BuffersKept.foldl {α : Type} {f : State → α → State} (h : ∀ s a, BuffersKept s (f s a)) (l : List α) (s : State) :
    BuffersKept s (l.foldl f s) :=
  List.foldlRecOn (motive := BuffersKept s) l f (BuffersKept.refl s) fun t ht a _ => ht.trans (h t a)

theorem BuffersKept.of_players {s t : State} (hplayers : t.players = s.players) (hpath : t.path.inService = s.path.inService) :
    BuffersKept s t :=
  ⟨hpath, fun k => by simp only [State.player, hplayers]; exact RefillKept.refl _⟩

theorem SamePool.buffersKept {s t : State} (h : SamePool s t) : BuffersKept s t := by
  obtain ⟨-, hplayers, -, hpath⟩ := h
  exact BuffersKept.of_players hplayers hpath

theorem BuffersKept.buffersHold {s t : State} (h : BuffersKept s t) (hs : buffersHold s) : buffersHold t := by
  intro k
  obtain ⟨hlength, hroom, hserved⟩ := hs k
  obtain ⟨hsame, hshrunk, hplaced⟩ := h.player k
  refine ⟨Nat.le_trans hshrunk hlength, fun hread => ?_, by rw [hsame, hserved, h.inService]⟩
  cases hr : (t.player k).read with
  | idle => exact absurd hr hread
  | waiting =>
    obtain hwaiting | hshort := hplaced hr
    · exact Nat.le_trans hshrunk (hroom (by simp [hwaiting]))
    · exact hshort
  | inService => exact Nat.le_trans hshrunk (hroom (by simp [hsame.1 hr]))

/-! ## The pool's operations (09) -/

theorem updPlayer_buffersKept (p : PlayerNo) (f : Player → Player) (s : State) (h : RefillKept (s.player p) (f (s.player p))) :
    BuffersKept s (s.updPlayer p f) := by
  refine ⟨rfl, fun k => ?_⟩
  by_cases hk : p = k
  · subst hk
    simpa using h
  · simpa [State.updPlayer_player, hk] using RefillKept.refl _

theorem placeRead_buffersKept (p : PlayerNo) (s : State) : BuffersKept s (placeRead p s) := by
  refine ⟨placeRead_inService p s, fun k => ?_⟩
  rw [placeRead_player]
  split
  · next hdue =>
    simp only [refillDue, Bool.and_eq_true, decide_eq_true_eq, beq_iff_eq] at hdue
    obtain ⟨-, ⟨⟨-, hroom⟩, hidle⟩, -⟩ := hdue
    exact ⟨by simp [hidle], Nat.le_refl _, fun _ => .inr hroom⟩
  · exact RefillKept.refl _

theorem allocate_buffersKept (p : PlayerNo) (clip : Nat) (o : Owner) (loops : Nat) (cs : List ChanNo) (s : State) :
    BuffersKept s (allocate p clip o loops cs s) := by
  refine ⟨allocate_inService .., fun k => ?_⟩
  rw [allocate_player]
  split
  · refine ⟨?_, Nat.zero_le _, fun _ => .inr (Nat.zero_le _)⟩
    by_cases hserved : (s.player k).read = .inService <;> simp [taken, hserved]
  · exact RefillKept.refl _

theorem clearPlayer_buffersKept (p : PlayerNo) (s : State) : BuffersKept s (clearPlayer p s) := by
  refine ⟨clearPlayer_inService p s, fun k => ?_⟩
  rw [clearPlayer_player]
  split
  · refine ⟨?_, Nat.zero_le _, fun _ => .inr (Nat.zero_le _)⟩
    by_cases hserved : (s.player k).read = .inService <;> simp [cleared, carriedRead, hserved]
  · exact RefillKept.refl _

theorem joinPlayer_buffersKept (p : PlayerNo) (c : ChanNo) (s : State) : BuffersKept s (joinPlayer p c s) :=
  updPlayer_buffersKept p _ s ⟨Iff.rfl, Nat.le_refl _, .inl⟩

theorem leavePlayer_buffersKept (p : PlayerNo) (c : ChanNo) (s : State) : BuffersKept s (leavePlayer p c s) :=
  updPlayer_buffersKept p _ s ⟨Iff.rfl, Nat.le_refl _, .inl⟩

theorem setHoldPlayer_buffersKept (v : Option PlayerNo) (cs : List ChanNo) (s : State) : BuffersKept s (setHoldPlayer v cs s) :=
  BuffersKept.of_players rfl rfl

theorem queueNotice_buffersKept (k : NoticeKind) (j : Subject) (d : Detail) (s : State) : BuffersKept s (queueNotice k j d s) :=
  (queueNotice_pool k j d s).buffersKept

theorem offerRounds_buffersKept (n : Nat) (s : State) : BuffersKept s (offerRounds n s) := by
  induction n generalizing s with
  | zero => exact BuffersKept.refl s
  | succ n ih =>
    unfold offerRounds
    split
    · exact (allocate_buffersKept ..).trans (ih _)
    · exact BuffersKept.refl s

theorem offer_buffersKept (s : State) : BuffersKept s (offer s) := offerRounds_buffersKept 6 s

theorem endPlay_buffersKept (p : PlayerNo) (e : PlayEnd) (s : State) : BuffersKept s (endPlay p e s) := by
  unfold endPlay
  dsimp only
  split
  · exact ((clearPlayer_buffersKept p s).trans (queueNotice_buffersKept ..)).trans (offer_buffersKept _)
  · exact (clearPlayer_buffersKept p s).trans (offer_buffersKept _)

theorem announce_buffersKept (p : PlayerNo) (taken : Bool) (clip loops : Nat) (cs : List ChanNo) (s : State) :
    BuffersKept s (announce p taken clip loops cs s) := by
  cases taken
  · exact allocate_buffersKept p clip .announce loops cs s
  · exact (clearPlayer_buffersKept p s).trans (allocate_buffersKept p clip .announce loops cs _)

theorem requestHold_buffersKept (c : ChanNo) (clip : Nat) (s : State) : BuffersKept s (requestHold c clip s) := by
  unfold requestHold
  split
  · exact (joinPlayer_buffersKept _ c s).trans (setHoldPlayer_buffersKept _ _ _)
  · split
    · split
      · exact allocate_buffersKept ..
      · exact BuffersKept.refl s
    · exact BuffersKept.refl s

theorem leaveHold_buffersKept (c : ChanNo) (s : State) : BuffersKept s (leaveHold c s) := by
  unfold leaveHold
  split
  · exact BuffersKept.refl s
  · next p _ =>
    have hleft := (leavePlayer_buffersKept p c s).trans (setHoldPlayer_buffersKept none [c] _)
    dsimp only
    split
    · exact hleft.trans (endPlay_buffersKept _ _ _)
    · exact hleft

/-! ## Decisions and Set Channel (06 R104, R110 to R116) -/

theorem assignTo_buffersKept (c : ChanNo) (v : Option PlayerNo) (s : State) : BuffersKept s (assignTo c v s) := by
  cases v with
  | none => exact BuffersKept.of_players rfl rfl
  | some p => exact (BuffersKept.of_players rfl rfl : BuffersKept s (setAssigned c (some p) s)).trans (joinPlayer_buffersKept p c _)

theorem unassignEmergency_buffersKept (c : ChanNo) (s : State) : BuffersKept s (unassignEmergency c s) := by
  unfold unassignEmergency
  split
  · next p _ => exact (leavePlayer_buffersKept p c s).trans (BuffersKept.of_players rfl rfl)
  · exact BuffersKept.refl s

theorem enterHold_buffersKept (c : ChanNo) (s : State) : BuffersKept s (enterHold c s) := by
  unfold enterHold
  dsimp only
  split
  · exact (queueNotice_buffersKept ..).trans (requestHold_buffersKept ..)
  · exact queueNotice_buffersKept ..

theorem leaveState_buffersKept (c : ChanNo) (old new : ChannelState) (s : State) : BuffersKept s (leaveState c old new s) := by
  unfold leaveState
  split
  · exact leaveHold_buffersKept c s
  · split
    · exact (unassignEmergency_buffersKept c s).trans (BuffersKept.of_players rfl rfl)
    · exact BuffersKept.refl s

theorem enterState_buffersKept (c : ChanNo) (old new : ChannelState) (s : State) : BuffersKept s (enterState c old new s) := by
  unfold enterState
  split
  · exact enterHold_buffersKept c s
  · split
    · exact (assignTo_buffersKept c (emergencyPlayerFor s c) s).trans (BuffersKept.of_players rfl rfl)
    · exact BuffersKept.refl s

theorem updChannel_buffersKept (c : ChanNo) (f : Channel → Channel) (s : State) : BuffersKept s (s.updChannel c f) :=
  BuffersKept.of_players rfl rfl

theorem decideChannel_buffersKept (c : ChanNo) (s : State) : BuffersKept s (decideChannel c s) :=
  ((updChannel_buffersKept c _ s).trans (leaveState_buffersKept ..)).trans (enterState_buffersKept ..)

theorem decideAll_buffersKept (s : State) : BuffersKept s (decideAll s) :=
  BuffersKept.foldl (fun t c => decideChannel_buffersKept c t) (every 12) s

theorem leaveForNewClip_buffersKept (c : ChanNo) (s : State) : BuffersKept s (leaveForNewClip c s) :=
  ((updChannel_buffersKept c _ s).trans (leaveHold_buffersKept c _)).trans (updChannel_buffersKept c _ _)

theorem reholdChannel_buffersKept (c : ChanNo) (before : Channel) (s : State) : BuffersKept s (reholdChannel c before s) := by
  unfold reholdChannel
  dsimp only
  split
  · split
    · exact (leaveForNewClip_buffersKept c s).trans (requestHold_buffersKept ..)
    · exact leaveForNewClip_buffersKept c s
  · exact BuffersKept.refl s

theorem reassignChannel_buffersKept (c : ChanNo) (before : ChannelState) (s : State) :
    BuffersKept s (reassignChannel c before s) := by
  unfold reassignChannel
  split
  · exact (unassignEmergency_buffersKept c s).trans (assignTo_buffersKept c _ _)
  · exact BuffersKept.refl s

theorem setChannelTo_buffersKept (c : ChanNo) (f : ChannelConfig) (s : State) : BuffersKept s (setChannelTo c f s) := by
  have hwritten : BuffersKept s (writeChannel c f s) := BuffersKept.of_players rfl rfl
  exact ((hwritten.trans (decideChannel_buffersKept c _)).trans (reholdChannel_buffersKept c _ _)).trans
    (reassignChannel_buffersKept c _ _)

/-! ## Emergency control (10) -/

/-- A player cleared where a test holds. -/
theorem clearIf_buffersKept (b : Bool) (p : PlayerNo) (s : State) : BuffersKept s (if b = true then clearPlayer p s else s) := by
  cases b
  · exact BuffersKept.refl s
  · exact clearPlayer_buffersKept p s

theorem servePlayer_buffersKept (p : PlayerNo) (l : Lang) (clip : Nat) (s : State) : BuffersKept s (servePlayer p l clip s) :=
  (allocate_buffersKept p clip .emergency 0 [] s).trans (BuffersKept.of_players rfl rfl)

theorem serveDefault_buffersKept (s : State) : BuffersKept s (serveDefault s) := by
  unfold serveDefault
  split
  · split
    · exact allocate_buffersKept ..
    · exact BuffersKept.refl s
  · exact BuffersKept.refl s

theorem serveLanguage_buffersKept (l : Lang) (s : State) : BuffersKept s (serveLanguage l s) := by
  unfold serveLanguage
  split
  · exact servePlayer_buffersKept ..
  · exact BuffersKept.refl s

theorem servePlayers_buffersKept (s : State) : BuffersKept s (servePlayers s) :=
  (serveDefault_buffersKept s).trans (BuffersKept.foldl (fun t l => serveLanguage_buffersKept l t) _ _)

theorem raise_buffersKept (cause : RaiseCause) (s : State) : BuffersKept s (raise cause s) := by
  have hraised : BuffersKept s (setRaised (some ⟨cause, s.siteTime⟩) s) := BuffersKept.of_players rfl rfl
  have hstopped := hraised.trans (BuffersKept.foldl (fun t p => clearIf_buffersKept (isBusy (t.player p)) p t) (every 6) _)
  have hdecided := (hstopped.trans (servePlayers_buffersKept _)).trans (decideAll_buffersKept _)
  exact (hdecided.trans (queueNotice_buffersKept ..)).trans
    (BuffersKept.foldl (fun t x => queueNotice_buffersKept ..) (preemptedPlayers s) _)

theorem freePlayers_buffersKept (s : State) : BuffersKept s (freePlayers s) := by
  have hnone : ∀ t, BuffersKept t (serveNone t) := fun t => BuffersKept.of_players rfl rfl
  rw [freePlayers_eq]
  exact (BuffersKept.foldl (fun t p => clearIf_buffersKept (ownedBy .emergency (t.player p)) p t) (every 6) s).trans (hnone _)

theorem reportCleared_pool (r : Raised) (s : State) : SamePool s (reportCleared r s) := by
  simp [reportCleared]

theorem clear_buffersKept (r : Raised) (s : State) : BuffersKept s (clear r s) := by
  have hcleared : BuffersKept s (setRaised none s) := BuffersKept.of_players rfl rfl
  unfold clear
  exact ((hcleared.trans (reportCleared_pool r _).buffersKept).trans (freePlayers_buffersKept _)).trans (decideAll_buffersKept _)

theorem moveChannels_buffersKept (p : PlayerNo) (test : State → ChanNo → Bool) (s : State) :
    BuffersKept s (moveChannels p test s) :=
  BuffersKept.foldl (fun t c => (unassignEmergency_buffersKept c t).trans (assignTo_buffersKept c (some p) _)) _ s

theorem emergencySeal_buffersKept (clip : Clip) (s : State) : BuffersKept s (emergencySeal clip s) := by
  unfold emergencySeal
  split
  · split
    · exact (allocate_buffersKept ..).trans (moveChannels_buffersKept ..)
    · split
      · split
        · exact (servePlayer_buffersKept ..).trans (moveChannels_buffersKept ..)
        · exact BuffersKept.refl s
      · exact BuffersKept.refl s
  · exact BuffersKept.refl s

theorem tellSealed_buffersKept (good : Bool) (job : ProgramJob) (s : State) : BuffersKept s (tellSealed good job s) := by
  unfold tellSealed
  split
  · split
    · exact (offer_buffersKept s).trans (emergencySeal_buffersKept ..)
    · exact BuffersKept.refl s
  · exact BuffersKept.refl s

/-! ## The frame (09 R163) -/

theorem advance_refill (total : Nat) (q : Player) : (advance total q).read = q.read ∧ (advance total q).buffer = q.buffer := by
  unfold advance
  repeat' split
  all_goals exact ⟨rfl, rfl⟩

theorem giveSample_buffersKept (p : PlayerNo) (s : State) : BuffersKept s (giveSample p s) := by
  unfold giveSample
  dsimp only
  split
  · split
    · next rest hbuffer =>
      refine (updPlayer_buffersKept p _ s ?_).trans (placeRead_buffersKept p _)
      obtain ⟨hread, hrest⟩ := advance_refill (clipTotal s (clipOrZero (s.player p).clip)) { s.player p with buffer := rest }
      exact ⟨by rw [hread], by simp [hrest, hbuffer], fun hw => .inl (hread.symm.trans hw)⟩
    · have hmarked := updPlayer_buffersKept p (fun q => { q with underrun := true }) s ⟨Iff.rfl, Nat.le_refl _, .inl⟩
      split
      · exact hmarked.trans (placeRead_buffersKept p _)
      · exact (hmarked.trans (queueNotice_buffersKept ..)).trans (placeRead_buffersKept p _)
  · exact BuffersKept.refl s

theorem giveSamples_buffersKept (s : State) : BuffersKept s (giveSamples s) :=
  BuffersKept.foldl (fun t p => giveSample_buffersKept p t) (every 6) s

theorem compute_buffersKept (s : State) (fi : FrameInput) : BuffersKept s (compute s fi) := BuffersKept.of_players rfl rfl

theorem endPlays_buffersKept (ps : List PlayerNo) (s : State) : BuffersKept s (endPlays ps s) :=
  BuffersKept.foldl (fun t p => endPlay_buffersKept p .completed t) ps s

theorem mixFrame_buffersKept (codes : Table Half 16) (s : State) : BuffersKept s (mixFrame codes s) :=
  ((giveSamples_buffersKept s).trans (compute_buffersKept _ _)).trans (endPlays_buffersKept _ _)

/-! ## The read path (08 R152, 09 R162) -/

theorem playerAt_pathPosition (p : PlayerNo) : playerAt (pathPosition p) = some p := inRange_val p

theorem pathPosition_of_playerAt {q : Fin 7} {p : PlayerNo} (h : playerAt q = some p) : q = pathPosition p := by
  unfold playerAt inRange at h
  split at h
  · cases h
    rfl
  · cases h

theorem pathPosition_ne_six (p : PlayerNo) : pathPosition p ≠ 6 := by
  intro h
  have hval := congrArg Fin.val h
  simp only [pathPosition] at hval
  omega

theorem pathPosition_inj {p k : PlayerNo} (h : pathPosition p = pathPosition k) : p = k := by
  have hval := congrArg Fin.val h
  exact Fin.ext hval

theorem nextWaiting_waits {s : State} {q : Fin 7} (h : nextWaiting s = some q) : readWaits s q = true := List.find?_some h

/-- A read that waits is taken into service while none is. -/
theorem serveRead_buffersHold {q : Fin 7} {s : State} (hfree : s.path.inService = none) (hnext : nextWaiting s = some q)
    (h : buffersHold s) : buffersHold (serveRead q s) := by
  have hwaits := nextWaiting_waits hnext
  have hunserved : ∀ k, (s.player k).read ≠ .inService := fun k hk => by
    have hserved := (h k).2.2.1 hk
    rw [hfree] at hserved
    cases hserved
  unfold serveRead
  dsimp only
  cases hq : playerAt q with
  | none =>
    intro k
    obtain ⟨hlength, hroom, -⟩ := h k
    refine ⟨hlength, hroom, fun hk => absurd hk (hunserved k), fun hserved => ?_⟩
    have hpos : q = pathPosition k := Option.some.inj hserved
    rw [hpos, playerAt_pathPosition] at hq
    cases hq
  | some p =>
    have hpos := pathPosition_of_playerAt hq
    intro k
    obtain ⟨hlength, hroom, -⟩ := h k
    simp only [State.updPlayer_player, State.updPlayer_path, State.updPath_path, State.updPath_player, hpos]
    by_cases hk : p = k
    · subst hk
      have hwaiting : (s.player p).read = .waiting := by simpa [readWaits, hq] using hwaits
      exact ⟨by simpa using hlength, fun _ => by simpa using hroom (by simp [hwaiting]), by simp⟩
    · rw [if_neg hk]
      exact ⟨hlength, hroom, fun hserved => absurd hserved (hunserved k),
        fun hserved => absurd (pathPosition_inj (Option.some.inj hserved)) hk⟩

theorem length_clipCodes (m : List Host.Cell) (c : Clip) (p n : Nat) : (clipCodes m c p n).length = n := by
  induction n generalizing p with
  | zero => rfl
  | succ n ih => simp [clipCodes, ih]

theorem length_refillCodes_le (s : State) (q : Player) : (refillCodes s q).length ≤ 256 := by
  unfold refillCodes
  split
  · rw [length_clipCodes]
    exact Nat.min_le_left _ _
  · exact Nat.zero_le _

theorem landRefill_refill (total : Nat) (codes : List Byte) (q : Player) :
    (landRefill total codes q).read = .idle ∧ (landRefill total codes q).buffer = q.buffer ++ codes := by
  unfold landRefill advanceFetch
  repeat' split
  all_goals exact ⟨rfl, rfl⟩

/-- The player whose position the read path serves. -/
theorem served_of_bind {s : State} {p : PlayerNo} (h : s.path.inService.bind playerAt = some p) :
    s.path.inService = some (pathPosition p) := by
  obtain ⟨q, hq, hp⟩ := Option.bind_eq_some_iff.1 h
  rw [hq, pathPosition_of_playerAt hp]

/-- A read in service ends: its player's read is idle again and its buffer has taken at most 256 codes. -/
theorem endService_buffersHold {p : PlayerNo} {f : Player → Player} {s : State} (hserved : s.path.inService = some (pathPosition p))
    (hidle : (f (s.player p)).read = .idle) (hlength : (f (s.player p)).buffer.length ≤ (s.player p).buffer.length + 256)
    (h : buffersHold s) : buffersHold (freePath (s.updPlayer p f)) := by
  intro k
  have hnone : (freePath (s.updPlayer p f)).path.inService = none := rfl
  have hplayer : (freePath (s.updPlayer p f)).player k = if p = k then f (s.player k) else s.player k := State.updPlayer_player s p f k
  obtain ⟨hbound, hroom, hagrees⟩ := h k
  rw [hnone, hplayer]
  by_cases hk : p = k
  · subst hk
    have hshort := hroom (by simp [hagrees.2 hserved])
    rw [if_pos rfl, hidle]
    exact ⟨by omega, fun hread => absurd rfl hread, by simp⟩
  · rw [if_neg hk]
    refine ⟨hbound, hroom, fun hread => ?_, fun hread => by cases hread⟩
    exact absurd (pathPosition_inj (Option.some.inj (hserved.symm.trans (hagrees.1 hread)))) hk

theorem serveRefill_buffersHold {p : PlayerNo} {s : State} (hbind : s.path.inService.bind playerAt = some p) (h : buffersHold s) :
    buffersHold (serveRefill p s) := by
  have hserved := served_of_bind hbind
  refine (placeRead_buffersKept p _).buffersHold (endService_buffersHold hserved ?_ ?_ h)
  · split
    · rfl
    · exact (landRefill_refill _ _ _).1
  · split
    · exact Nat.le_add_right _ _
    · rw [(landRefill_refill _ _ _).2, List.length_append]
      exact Nat.add_le_add_left (length_refillCodes_le s _) _

/-- A read in service at position 6, which is no player's, ends. -/
theorem freePath_buffersHold {s : State} (hserved : s.path.inService = some 6) (h : buffersHold s) : buffersHold (freePath s) := by
  intro k
  obtain ⟨hlength, hroom, hagrees⟩ := h k
  refine ⟨hlength, hroom, fun hread => ?_, fun hread => by cases hread⟩
  exact absurd (Option.some.inj (hserved.symm.trans (hagrees.1 hread))).symm (pathPosition_ne_six k)

/-! ## Every step -/

/-- After a reset every player is IDLE and no read is in service. -/
theorem boot_buffersHold (kind : ResetKind) (straps : Straps) (s : State) : buffersHold (boot kind straps s) := by
  have hconfig := boot_configOnly kind straps s
  have hplayers : (boot kind straps s).players = State.reset.players := (congrArg State.players hconfig :)
  have hpath : (boot kind straps s).path.inService = State.reset.path.inService :=
    (congrArg (fun x : State => x.path.inService) hconfig :)
  exact (BuffersKept.of_players hplayers hpath).buffersHold buffersHold_reset

/-- The players' buffers and reads keep their law under every operation of the pool: only a refill lengthens a buffer, and it lands in one that
had room for 256 codes when its read was placed. -/
theorem buffersHold_poolLaw : PoolLaw buffersHold where
  samePool hsame := hsame.buffersKept.buffersHold
  setBound c _ s := (updChannel_buffersKept c _ s).buffersHold
  decideChannel c s := (decideChannel_buffersKept c s).buffersHold
  setChannelTo c f s := (setChannelTo_buffersKept c f s).buffersHold
  announce clip loops cs s _ _ := (announce_buffersKept _ _ clip loops cs s).buffersHold
  stop _ := (endPlay_buffersKept _ _ _).buffersHold
  tellSealed good job s := (tellSealed_buffersKept good job s).buffersHold
  mixFrame codes s := (mixFrame_buffersKept codes s).buffersHold
  serveRead := serveRead_buffersHold
  serveRefill := serveRefill_buffersHold
  freePath := freePath_buffersHold
  setInput _ _ h := h
  raise cause s _ := (raise_buffersKept cause s).buffersHold
  clear _ := (clear_buffersKept _ _).buffersHold
  boot := boot_buffersHold

/-- Settles O9: no operation lengthens a buffer but a refill, whose read was placed with at most 256 codes in the buffer and brings at most 256,
and the read path takes a waiting read into service only while it serves none. -/
theorem buffersStayBounded : Obligations.BuffersStayBounded := fun _ _ hs ht => buffersHold_poolLaw.step hs ht

end Sys2Proof.Machine
end

section
/-! PROOFS. Every step keeps the pool's records in agreement (09 R160, R166, 10 R174, R176, R182): hold players and assignments linked, and
emergency service whole. -/

namespace Sys2Proof.Machine

/-! ## The agreement -/

/-- The players agree with emergency control, raised or clear, and with the channels' hold players, whatever states the channels are in: emergency
is as said, hold players and emergency's players are linked, and while emergency is raised no other owner has a player, as EMERGENCY has none
while it is clear. -/
structure PlayersAgree (raised : Bool) (s : State) : Prop where
  state : isRaised s = raised
  hold : holdLinked s
  emergency : emergencyLinked s
  owners : ∀ p o, ownedBy o (s.player p) = true → (o = .emergency ↔ raised = true)

/-- A channel's state is one that emergency, raised or clear, allows. -/
def StateAllowed (raised : Bool) (st : ChannelState) : Prop := if raised then st = .off ∨ st = .emergency else st ≠ .emergency

/-- Every channel's state is one that emergency, raised or clear, allows. -/
def ChannelsAgree (raised : Bool) (s : State) : Prop := ∀ c, StateAllowed raised (s.channel c).state

/-- The pool's records agree with each other under emergency raised or clear. -/
structure PoolAgrees (raised : Bool) (s : State) : Prop where
  players : PlayersAgree raised s
  channels : ChannelsAgree raised s

/-- A player owned by neither ANNOUNCE nor HOLD is owned, if at all, by EMERGENCY. -/
theorem owned_by_emergency_iff (q : Player) :
    (ownedBy .announce q = false ∧ ownedBy .hold q = false) ↔ ∀ o, ownedBy o q = true → o = .emergency := by
  constructor
  · rintro ⟨hannounce, hhold⟩ o ho
    cases o with
    | announce => simp [hannounce] at ho
    | hold => simp [hhold] at ho
    | emergency => rfl
  · intro h
    exact ⟨Bool.eq_false_iff.2 fun ho => (by decide : Owner.announce ≠ .emergency) (h _ ho),
      Bool.eq_false_iff.2 fun ho => (by decide : Owner.hold ≠ .emergency) (h _ ho)⟩

theorem poolHolds_iff (s : State) : poolHolds s ↔ ∃ raised, PoolAgrees raised s := by
  unfold poolHolds emergencyTakesAll
  constructor
  · rintro ⟨hhold, hemergency, htakes⟩
    cases hraised : isRaised s
    · rw [hraised, if_neg Bool.false_ne_true] at htakes
      obtain ⟨hstates, hnone⟩ := htakes
      refine ⟨false, ⟨hraised, hhold, hemergency, fun p o ho => ⟨fun he => ?_, fun hf => by cases hf⟩⟩, hstates⟩
      rw [he, hnone p] at ho
      cases ho
    · rw [hraised, if_pos rfl] at htakes
      obtain ⟨hstates, hnone⟩ := htakes
      exact ⟨true, ⟨hraised, hhold, hemergency, fun p o ho => ⟨fun _ => rfl, fun _ => (owned_by_emergency_iff _).1 (hnone p) o ho⟩⟩,
        hstates⟩
  · rintro ⟨raised, ⟨hraised, hhold, hemergency, howners⟩, hstates⟩
    refine ⟨hhold, hemergency, ?_⟩
    rw [hraised]
    cases raised
    · exact ⟨hstates, fun p => Bool.eq_false_iff.2 fun ho => Bool.false_ne_true ((howners p _ ho).1 rfl)⟩
    · exact ⟨hstates, fun p => (owned_by_emergency_iff _).2 fun o ho => (howners p o ho).2 rfl⟩

/-! ## What the agreement depends on -/

/-- An owned player is not IDLE, and its owner is the one it names. -/
theorem ownedBy_iff (o : Owner) (q : Player) : ownedBy o q = true ↔ isBusy q = true ∧ q.owner = some o := by
  simp [ownedBy]

theorem not_ownedBy_of_idle {q : Player} (h : isBusy q = false) (o : Owner) : ¬ ownedBy o q = true := by
  simp [ownedBy, h]

theorem owner_unique {o o' : Owner} {q : Player} (h : ownedBy o q = true) (h' : ownedBy o' q = true) : o = o' :=
  Option.some.inj (((ownedBy_iff o q).1 h).2.symm.trans ((ownedBy_iff o' q).1 h').2)

/-- A player's part in the pool is as before: it plays for the same owner, a channel it lists stays listed, and endless loops stay endless. -/
structure PartKept (q r : Player) : Prop where
  busy : isBusy r = isBusy q
  owner : r.owner = q.owner
  channels : ∀ c, c ∈ q.channels → c ∈ r.channels
  loops : q.loops = 0 → r.loops = 0

theorem PartKept.refl (q : Player) : PartKept q q := ⟨rfl, rfl, fun _ h => h, id⟩

theorem PartKept.trans {q r u : Player} (h : PartKept q r) (k : PartKept r u) : PartKept q u :=
  ⟨k.busy.trans h.busy, k.owner.trans h.owner, fun c hc => k.channels c (h.channels c hc), fun hq => k.loops (h.loops hq)⟩

theorem PartKept.ownedBy {q r : Player} (h : PartKept q r) (o : Owner) : ownedBy o r = ownedBy o q := by
  simp [Machine.ownedBy, h.busy, h.owner]

/-- The agreement does not see what else a player's record, a channel or emergency control holds. -/
theorem PlayersAgree.of_parts {raised : Bool} {s t : State} (h : PlayersAgree raised s)
    (hplayers : ∀ p, PartKept (s.player p) (t.player p)) (hlinks : ∀ c, (t.channel c).holdPlayer = (s.channel c).holdPlayer)
    (hraised : t.emergency.raised = s.emergency.raised) (hserves : t.emergency.serves = s.emergency.serves)
    (hassigned : t.emergency.assigned = s.emergency.assigned) : PlayersAgree raised t := by
  obtain ⟨hr, hhold, ⟨hserve, hassign, hloops⟩, howners⟩ := h
  refine ⟨by simpa [isRaised, hraised] using hr, fun c p hp => ?_, ⟨fun p l hl => ?_, fun c p hp => ?_, fun p o ho hne => ?_⟩, ?_⟩
  · rw [hlinks] at hp
    obtain ⟨howned, hlisted⟩ := hhold c p hp
    exact ⟨((hplayers p).ownedBy _).trans howned, (hplayers p).channels c hlisted⟩
  · rw [hserves] at hl
    exact ((hplayers p).ownedBy _).trans (hserve p l hl)
  · rw [hassigned] at hp
    exact ((hplayers p).ownedBy _).trans (hassign c p hp)
  · rw [(hplayers p).owner] at ho
    exact (hplayers p).loops (hloops p o ho hne)
  · intro p o ho
    rw [(hplayers p).ownedBy] at ho
    exact howners p o ho

theorem PlayersAgree.of_records {raised : Bool} {s t : State} (h : PlayersAgree raised s) (hplayers : t.players = s.players)
    (hlinks : ∀ c, (t.channel c).holdPlayer = (s.channel c).holdPlayer) (hemergency : t.emergency = s.emergency) :
    PlayersAgree raised t :=
  h.of_parts (fun p => by simp only [State.player, hplayers]; exact PartKept.refl _) hlinks (by rw [hemergency]) (by rw [hemergency])
    (by rw [hemergency])

theorem PlayersAgree.samePool {raised : Bool} {s t : State} (hsame : SamePool s t) (h : PlayersAgree raised s) :
    PlayersAgree raised t := by
  obtain ⟨hchannels, hplayers, hemergency, -⟩ := hsame
  exact h.of_records hplayers (fun c => by simp [State.channel, hchannels]) hemergency

theorem SameDecisions.channelsAgree {raised : Bool} {s t : State} (hsame : SameDecisions s t) (h : ChannelsAgree raised s) :
    ChannelsAgree raised t := by
  intro c
  obtain ⟨-, -, hstate, -⟩ := hsame c
  rw [hstate]
  exact h c

theorem mem_insertNo {n : Nat} (x y : Fin n) (l : List (Fin n)) : x ∈ insertNo y l ↔ x = y ∨ x ∈ l := by
  induction l with
  | nil => simp [insertNo]
  | cons z zs ih =>
    unfold insertNo
    split
    · simp
    · split
      · next hyz => simp [hyz]
      · simp only [List.mem_cons, ih]
        exact or_left_comm

theorem isBusy_of_lowestIdle {s : State} {p : PlayerNo} (h : lowestIdle s = some p) : isBusy (s.player p) = false := by
  simpa using List.find?_some h

/-- A player made IDLE is no channel's hold player any more: where it was owned by HOLD the channels it lists lose it. -/
theorem clearPlayer_holdLinked (p : PlayerNo) {s : State} (h : holdLinked s) : holdLinked (clearPlayer p s) := by
  intro c k hk
  rw [clearPlayer_holdPlayer] at hk
  split at hk
  · cases hk
  · next hunlisted =>
    obtain ⟨howned, hin⟩ := h c k hk
    rw [clearPlayer_player, if_neg]
    · exact ⟨howned, hin⟩
    · rintro rfl
      exact hunlisted ⟨((ownedBy_iff _ _).1 howned).2, hin⟩

theorem leavePlayer_player (p : PlayerNo) (c : ChanNo) (s : State) (k : PlayerNo) :
    (leavePlayer p c s).player k =
      if p = k then { s.player k with channels := (s.player k).channels.filter (· != c) } else s.player k :=
  State.updPlayer_player s p _ k

theorem leavePlayer_ownedBy (p : PlayerNo) (c : ChanNo) (s : State) (o : Owner) (k : PlayerNo) :
    ownedBy o ((leavePlayer p c s).player k) = ownedBy o (s.player k) := by
  rw [leavePlayer_player]
  split <;> rfl

theorem isBusy_of_idleLanguagePlayer {s : State} {p : PlayerNo} (h : idleLanguagePlayer s = some p) : isBusy (s.player p) = false := by
  have hboth := List.find?_some h
  simp only [Bool.and_eq_true, Bool.not_eq_true'] at hboth
  exact hboth.2

theorem allocate_owned (p : PlayerNo) (clip : Nat) (o : Owner) (loops : Nat) (cs : List ChanNo) (s : State) :
    ownedBy o ((allocate p clip o loops cs s).player p) = true := by
  rw [allocate_player, if_pos rfl, ownedBy_iff]
  exact ⟨rfl, rfl⟩

theorem joinPlayer_ownedBy (p : PlayerNo) (c : ChanNo) (s : State) (o : Owner) (k : PlayerNo) :
    ownedBy o ((joinPlayer p c s).player k) = ownedBy o (s.player k) := by
  rw [joinPlayer, State.updPlayer_player]
  split <;> rfl

theorem assignTo_ownedBy (c : ChanNo) (v : Option PlayerNo) (s : State) (o : Owner) (k : PlayerNo) :
    ownedBy o ((assignTo c v s).player k) = ownedBy o (s.player k) := by
  cases v with
  | none => rfl
  | some p => exact joinPlayer_ownedBy p c (setAssigned c (some p) s) o k

theorem unassignEmergency_ownedBy (c : ChanNo) (s : State) (o : Owner) (k : PlayerNo) :
    ownedBy o ((unassignEmergency c s).player k) = ownedBy o (s.player k) := by
  unfold unassignEmergency
  split
  · exact leavePlayer_ownedBy _ c s o k
  · rfl

/-- The players of a list that pass a test have been made IDLE, and hold players and emergency control agree as before. -/
structure ClearedWhere (test : Player → Bool) (ps : List PlayerNo) (s t : State) : Prop where
  player : ∀ k, t.player k = s.player k ∧ (k ∈ ps → test (s.player k) = false) ∨ ∃ q, t.player k = cleared q
  emergency : t.emergency = s.emergency
  hold : holdLinked s → holdLinked t

theorem clearedWhere_foldl (test : Player → Bool) (ps : List PlayerNo) (s : State) :
    ClearedWhere test ps s (ps.foldl (fun t p => if test (t.player p) then clearPlayer p t else t) s) := by
  induction ps generalizing s with
  | nil => exact ⟨fun k => .inl ⟨rfl, fun hk => absurd hk List.not_mem_nil⟩, rfl, id⟩
  | cons p ps ih =>
    rw [List.foldl_cons]
    by_cases htest : test (s.player p) = true
    · rw [if_pos htest]
      obtain ⟨hplayer, hemergency, hhold⟩ := ih (clearPlayer p s)
      refine ⟨fun k => ?_, hemergency.trans (clearPlayer_emergency p s), fun h => hhold (clearPlayer_holdLinked p h)⟩
      obtain ⟨hsame, hrest⟩ | hcleared := hplayer k
      · rw [clearPlayer_player] at hsame hrest
        by_cases hk : p = k
        · exact .inr ⟨_, hsame.trans (if_pos hk)⟩
        · rw [if_neg hk] at hsame hrest
          exact .inl ⟨hsame, fun hmem => hrest ((List.mem_cons.1 hmem).resolve_left (Ne.symm hk))⟩
      · exact .inr hcleared
    · rw [if_neg htest]
      obtain ⟨hplayer, hemergency, hhold⟩ := ih s
      refine ⟨fun k => (hplayer k).imp_left fun hsame => ⟨hsame.1, fun hmem => ?_⟩, hemergency, hhold⟩
      obtain rfl | hrest := List.mem_cons.1 hmem
      · exact Bool.eq_false_iff.2 htest
      · exact hsame.2 hrest

namespace PlayersAgree

variable {raised : Bool} {s : State}

/-- While emergency is raised no channel has a hold player. -/
theorem no_holdPlayer (h : PlayersAgree true s) (c : ChanNo) : (s.channel c).holdPlayer = none := by
  cases hp : (s.channel c).holdPlayer with
  | none => rfl
  | some p => cases (h.owners p .hold (h.hold c p hp).1).2 rfl

/-- While emergency is clear no player serves a language and no channel is assigned a player. -/
theorem none_served (h : PlayersAgree false s) :
    (∀ p, s.emergency.serves.get p = none) ∧ ∀ c, s.emergency.assigned.get c = none := by
  obtain ⟨hserve, hassign, -⟩ := h.emergency
  constructor
  · intro p
    cases hl : s.emergency.serves.get p with
    | none => rfl
    | some l => cases (h.owners p .emergency (hserve p l hl)).1 rfl
  · intro c
    cases hp : s.emergency.assigned.get c with
    | none => rfl
    | some p => cases (h.owners p .emergency (hassign c p hp)).1 rfl

/-! ## Allocation and ending (09 R165, R166) -/

/-- A player whose record is written by an allocation, or made IDLE, has no one linked to it where it was IDLE. -/
theorem allocate {p : PlayerNo} {o : Owner} {loops : Nat} (clip : Nat) (cs : List ChanNo) (h : PlayersAgree raised s)
    (hidle : isBusy (s.player p) = false) (howner : o = .emergency ↔ raised = true) (hloops : o ≠ .announce → loops = 0) :
    PlayersAgree raised (allocate p clip o loops cs s) := by
  obtain ⟨hr, hhold, ⟨hserve, hassign, hendless⟩, howners⟩ := h
  have hother : ∀ k o', ownedBy o' (s.player k) = true → p ≠ k := fun k o' hk he => not_ownedBy_of_idle hidle o' (he ▸ hk)
  have hkept : ∀ k o', ownedBy o' (s.player k) = true → (Machine.allocate p clip o loops cs s).player k = s.player k := fun k o' hk => by
    rw [allocate_player, if_neg (hother k o' hk)]
  refine ⟨by simpa [isRaised] using hr, fun c k hk => ?_, ⟨fun k l hl => ?_, fun c k hk => ?_, fun k o' ho hne => ?_⟩, fun k o' ho => ?_⟩
  · rw [allocate_holdPlayer] at hk
    split at hk
    · next hlisted =>
      cases hk
      rw [allocate_player, if_pos rfl]
      exact ⟨by simp [ownedBy_iff, taken, allocated, isBusy, hlisted.1], hlisted.2⟩
    · obtain ⟨howned, hin⟩ := hhold c k hk
      rw [hkept k _ howned]
      exact ⟨howned, hin⟩
  · rw [allocate_emergency] at hl
    have howned := hserve k l hl
    rw [hkept k _ howned]
    exact howned
  · rw [allocate_emergency] at hk
    have howned := hassign c k hk
    rw [hkept k _ howned]
    exact howned
  · rw [allocate_player] at ho ⊢
    split at ho
    · next hk =>
      cases ho
      rw [if_pos hk]
      exact hloops hne
    · next hk =>
      rw [if_neg hk]
      exact hendless k o' ho hne
  · rw [allocate_player] at ho
    split at ho
    · cases ((ownedBy_iff _ _).1 ho).2
      exact howner
    · exact howners k o' ho

/-- A player not owned by EMERGENCY is made IDLE: the channels that a hold player lists lose it. -/
theorem clearPlayer {p : PlayerNo} (h : PlayersAgree raised s) (hp : ¬ ownedBy .emergency (s.player p) = true) :
    PlayersAgree raised (clearPlayer p s) := by
  obtain ⟨hr, hhold, ⟨hserve, hassign, hendless⟩, howners⟩ := h
  have hkept : ∀ k, ownedBy .emergency (s.player k) = true → (Machine.clearPlayer p s).player k = s.player k := fun k hk => by
    rw [clearPlayer_player, if_neg fun he : p = k => hp (he ▸ hk)]
  refine ⟨by simpa [isRaised] using hr, fun c k hk => ?_, ⟨fun k l hl => ?_, fun c k hk => ?_, fun k o' ho hne => ?_⟩, fun k o' ho => ?_⟩
  · exact clearPlayer_holdLinked p hhold c k hk
  · rw [clearPlayer_emergency] at hl
    have howned := hserve k l hl
    rw [hkept k howned]
    exact howned
  · rw [clearPlayer_emergency] at hk
    have howned := hassign c k hk
    rw [hkept k howned]
    exact howned
  · rw [clearPlayer_player] at ho ⊢
    split at ho
    · cases ho
    · next hk =>
      rw [if_neg hk]
      exact hendless k o' ho hne
  · rw [clearPlayer_player] at ho
    split at ho
    · exact absurd ho (not_ownedBy_of_idle rfl o')
    · exact howners k o' ho

/-! ## Writes that the agreement does not see -/

theorem updMix (c : ChanNo) (f : Mix → Mix) (h : PlayersAgree raised s) : PlayersAgree raised (s.updMix c f) :=
  h.of_records rfl (fun _ => rfl) rfl

/-- A write to a channel's record that leaves its hold player. -/
theorem updChannel {c : ChanNo} {f : Channel → Channel} (hf : ∀ ch, (f ch).holdPlayer = ch.holdPlayer) (h : PlayersAgree raised s) :
    PlayersAgree raised (s.updChannel c f) := by
  refine h.of_records rfl (fun d => ?_) rfl
  rw [State.updChannel_channel]
  split
  · exact hf _
  · rfl

/-! ## Joining and leaving (09 R170, R171, 10 R178) -/

theorem joinPlayer (p : PlayerNo) (c : ChanNo) (h : PlayersAgree raised s) : PlayersAgree raised (joinPlayer p c s) := by
  refine h.of_parts (fun k => ?_) (fun _ => rfl) rfl rfl rfl
  rw [Machine.joinPlayer, State.updPlayer_player]
  split
  · exact ⟨rfl, rfl, fun d hd => (mem_insertNo d c _).2 (.inr hd), id⟩
  · exact PartKept.refl _

/-- A channel leaves the list of a player that is not its hold player. -/
theorem leavePlayer {p : PlayerNo} {c : ChanNo} (h : PlayersAgree raised s) (hc : (s.channel c).holdPlayer ≠ some p) :
    PlayersAgree raised (leavePlayer p c s) := by
  have howned := leavePlayer_ownedBy p c s
  have hrecord := leavePlayer_player p c s
  obtain ⟨hr, hhold, ⟨hserve, hassign, hendless⟩, howners⟩ := h
  refine ⟨hr, fun d k hk => ?_, ⟨fun k l hl => ?_, fun d k hk => ?_, fun k o ho hne => ?_⟩, fun k o ho => ?_⟩
  · obtain ⟨hheld, hin⟩ := hhold d k hk
    refine ⟨(howned _ k).trans hheld, ?_⟩
    rw [hrecord]
    split
    · next hp =>
      refine List.mem_filter.2 ⟨hin, ?_⟩
      simp only [bne_iff_ne, ne_eq]
      rintro rfl
      exact hc (hp ▸ hk)
    · exact hin
  · exact (howned _ k).trans (hserve k l hl)
  · exact (howned _ k).trans (hassign d k hk)
  · have hsame : ((Machine.leavePlayer p c s).player k).owner = (s.player k).owner
        ∧ ((Machine.leavePlayer p c s).player k).loops = (s.player k).loops := by
      rw [hrecord]
      split <;> exact ⟨rfl, rfl⟩
    rw [hsame.1] at ho
    rw [hsame.2]
    exact hendless k o ho hne
  · rw [howned] at ho
    exact howners k o ho

/-- Hold players written: each is none or owned by HOLD and lists the channel. -/
theorem setHoldPlayer {v : Option PlayerNo} {cs : List ChanNo} (h : PlayersAgree raised s)
    (hv : ∀ p, v = some p → ownedBy .hold (s.player p) = true ∧ ∀ c ∈ cs, c ∈ (s.player p).channels) :
    PlayersAgree raised (setHoldPlayer v cs s) := by
  refine ⟨h.state, fun c p hp => ?_, h.emergency, h.owners⟩
  rw [setHoldPlayer_holdPlayer] at hp
  split at hp
  · next hc => exact ⟨(hv p hp).1, (hv p hp).2 c hc⟩
  · exact h.hold c p hp

/-- An assignment written: it is none or a player owned by EMERGENCY. -/
theorem setAssigned {c : ChanNo} {v : Option PlayerNo} (h : PlayersAgree raised s)
    (hv : ∀ p, v = some p → ownedBy .emergency (s.player p) = true) : PlayersAgree raised (setAssigned c v s) := by
  obtain ⟨hserve, hassign, hendless⟩ := h.emergency
  refine ⟨h.state, h.hold, ⟨hserve, fun d p hp => ?_, hendless⟩, h.owners⟩
  have hget : (s.emergency.assigned.set c v).get d = some p := hp
  rw [Table.get_set] at hget
  split at hget
  · exact hv p hget
  · exact hassign d p hget

/-- A player made the player of a language is owned by EMERGENCY. -/
theorem setServes {p : PlayerNo} (l : Lang) (h : PlayersAgree raised s) (hp : ownedBy .emergency (s.player p) = true) :
    PlayersAgree raised (setServes p (some l) s) := by
  obtain ⟨hserve, hassign, hendless⟩ := h.emergency
  refine ⟨h.state, h.hold, ⟨fun k m hk => ?_, hassign, hendless⟩, h.owners⟩
  have hget : (s.emergency.serves.set p (some l)).get k = some m := hk
  rw [Table.get_set] at hget
  split at hget
  · next he => exact he ▸ hp
  · exact hserve k m hget

/-! ## Hold service (09 R170 to R172), which emergency ends -/

theorem offerRounds (n : Nat) {s : State} (h : PlayersAgree false s) : PlayersAgree false (offerRounds n s) := by
  induction n generalizing s with
  | zero => exact h
  | succ n ih =>
    unfold Machine.offerRounds
    split
    · next hidle _ => exact ih (h.allocate _ _ (isBusy_of_lowestIdle hidle) (by simp) fun _ => rfl)
    · exact h

theorem offer (h : PlayersAgree false s) : PlayersAgree false (offer s) := h.offerRounds 6

theorem endPlay (p : PlayerNo) (e : PlayEnd) (h : PlayersAgree false s) : PlayersAgree false (endPlay p e s) := by
  have hcleared := h.clearPlayer (p := p) fun ho => Bool.false_ne_true ((h.owners p _ ho).1 rfl)
  unfold Machine.endPlay
  dsimp only
  split
  · exact (samePool (queueNotice_pool ..) hcleared).offer
  · exact hcleared.offer

theorem requestHold (c : ChanNo) (clip : Nat) (h : PlayersAgree false s) : PlayersAgree false (requestHold c clip s) := by
  unfold Machine.requestHold
  split
  · next p hfound =>
    have hheld : ownedBy .hold (s.player p) = true := by
      have hboth := List.find?_some hfound
      simp only [Bool.and_eq_true] at hboth
      exact hboth.1
    refine (h.joinPlayer p c).setHoldPlayer fun k hk => ?_
    cases hk
    rw [Machine.joinPlayer, State.updPlayer_player_self]
    exact ⟨hheld, fun d hd => (mem_insertNo d c _).2 (.inl (List.mem_singleton.1 hd))⟩
  · split
    · split
      · next hidle => exact h.allocate _ _ (isBusy_of_lowestIdle hidle) (by simp) fun _ => rfl
      · exact h
    · exact h

/-- A channel leaves hold service, in which emergency, once raised, leaves no channel. -/
theorem leaveHold (c : ChanNo) (h : PlayersAgree raised s) : PlayersAgree raised (leaveHold c s) := by
  unfold Machine.leaveHold
  cases raised with
  | true =>
    rw [h.no_holdPlayer c]
    exact h
  | false =>
    split
    · exact h
    · next p _ =>
      have hunlinked : PlayersAgree false (Machine.setHoldPlayer none [c] s) := h.setHoldPlayer fun k hk => by cases hk
      have hleft : PlayersAgree false (Machine.setHoldPlayer none [c] (Machine.leavePlayer p c s)) :=
        hunlinked.leavePlayer (by rw [setHoldPlayer_holdPlayer]; simp)
      dsimp only
      split
      · exact hleft.endPlay p .stopped
      · exact hleft

/-- A channel that stays in HOLD leaves its player; its configuration is not read by the agreement. -/
theorem leaveForNewClip (c : ChanNo) (h : PlayersAgree raised s) : PlayersAgree raised (leaveForNewClip c s) := by
  have hclip : ∀ {t : State} (v : Option Nat), PlayersAgree raised t → PlayersAgree raised (setHoldClip c v t) := fun v ht =>
    ht.updChannel (c := c) (f := fun ch => { ch with config := { ch.config with holdClip := v } }) fun _ => rfl
  exact hclip _ ((hclip none h).leaveHold c)

/-! ## Emergency's players (10 R178) -/

theorem assignTo {c : ChanNo} {v : Option PlayerNo} (h : PlayersAgree raised s)
    (hv : ∀ p, v = some p → ownedBy .emergency (s.player p) = true) : PlayersAgree raised (assignTo c v s) := by
  cases v with
  | none => exact h.setAssigned hv
  | some p => exact (h.setAssigned hv).joinPlayer p c

theorem emergencyPlayerFor_owned {c : ChanNo} {p : PlayerNo} (h : PlayersAgree raised s) (hp : emergencyPlayerFor s c = some p) :
    ownedBy .emergency (s.player p) = true := by
  unfold emergencyPlayerFor at hp
  dsimp only at hp
  split at hp
  · next hfound =>
    cases hp
    have hserves := List.find?_some hfound
    simp only [beq_iff_eq] at hserves
    exact h.emergency.1 p _ hserves
  · split at hp
    · next howned =>
      cases hp
      exact howned
    · cases hp

theorem assignEmergency (c : ChanNo) (h : PlayersAgree raised s) : PlayersAgree raised (assignEmergency c s) :=
  h.assignTo fun _ hp => h.emergencyPlayerFor_owned hp

theorem unassignEmergency (c : ChanNo) (h : PlayersAgree raised s) : PlayersAgree raised (unassignEmergency c s) := by
  unfold Machine.unassignEmergency
  split
  · next p hp =>
    have howned := h.emergency.2.1 c p hp
    have hleft := h.leavePlayer (p := p) (c := c) fun hheld => by cases owner_unique howned (h.hold c p hheld).1
    exact hleft.setAssigned fun k hk => by cases hk
  · exact h

/-! ## Decisions (06 R110 to R116) -/

theorem leaveState (c : ChanNo) (old new : ChannelState) (h : PlayersAgree raised s) : PlayersAgree raised (leaveState c old new s) := by
  unfold Machine.leaveState
  split
  · exact h.leaveHold c
  · split
    · exact (h.unassignEmergency c).updMix c _
    · exact h

theorem enterHold (c : ChanNo) (h : PlayersAgree false s) : PlayersAgree false (enterHold c s) := by
  have hnoted := fun d => samePool (queueNotice_pool .channelHold (.channel c) d s) h
  unfold Machine.enterHold
  dsimp only
  split
  · exact (hnoted _).requestHold c _
  · exact hnoted _

theorem enterState (c : ChanNo) (old : ChannelState) {new : ChannelState} (hnew : StateAllowed raised new) (h : PlayersAgree raised s) :
    PlayersAgree raised (enterState c old new s) := by
  unfold Machine.enterState
  split
  · next hhold =>
    cases raised with
    | true => rw [hhold.1] at hnew; simp [StateAllowed] at hnew
    | false => exact h.enterHold c
  · split
    · exact (h.assignEmergency c).updMix c _
    · exact h

theorem decidedState_allowed (h : PlayersAgree raised s) (c : ChanNo) : StateAllowed raised (decidedState s c) := by
  rw [← h.state]
  unfold StateAllowed decidedState
  cases isRaised s
  · repeat' split
    all_goals simp_all
  · repeat' split
    all_goals simp_all

theorem decideChannel (c : ChanNo) (h : PlayersAgree raised s) : PlayersAgree raised (decideChannel c s) := by
  have hallowed := h.decidedState_allowed c
  have hdecided := h.updChannel (c := c) (f := fun ch => { ch with state := decidedState s c, primary := primarySource s c }) fun _ => rfl
  exact (hdecided.leaveState c _ _).enterState c _ hallowed

/-- Channels decided one after another take the states that emergency allows, where those not decided have them. -/
theorem decideEach (cs : List ChanNo) {s : State} (h : PlayersAgree raised s)
    (hrest : ∀ c, c ∉ cs → StateAllowed raised (s.channel c).state) : PoolAgrees raised (decideEach cs s) := by
  induction cs generalizing s with
  | nil => exact ⟨h, fun c => hrest c List.not_mem_nil⟩
  | cons d ds ih =>
    refine ih (h.decideChannel d) fun c hc => ?_
    obtain ⟨-, -, hstate, -⟩ := decideChannel_channel d s c
    rw [hstate]
    split
    · exact h.decidedState_allowed d
    · next hd => exact hrest c fun hmem => (List.mem_cons.1 hmem).elim (fun he => hd he.symm) hc

theorem decideAll (h : PlayersAgree raised s) : PoolAgrees raised (decideAll s) :=
  h.decideEach _ fun c hc => absurd (mem_every c) hc

/-! ## Emergency's players made and unmade (10 R176, R177, R179, R182) -/

theorem servePlayer {p : PlayerNo} (l : Lang) (clip : Nat) (h : PlayersAgree true s) (hidle : isBusy (s.player p) = false) :
    PlayersAgree true (servePlayer p l clip s) :=
  (h.allocate clip [] hidle (by simp) fun _ => rfl).setServes l (allocate_owned ..)

theorem serveDefault (h : PlayersAgree true s) (hidle : isBusy (s.player 0) = false) : PlayersAgree true (serveDefault s) := by
  unfold Machine.serveDefault
  split
  · split
    · exact h.allocate _ [] hidle (by simp) fun _ => rfl
    · exact h
  · exact h

theorem serveLanguage (l : Lang) (h : PlayersAgree true s) : PlayersAgree true (serveLanguage l s) := by
  unfold Machine.serveLanguage
  split
  · next hidle => exact h.servePlayer l _ (isBusy_of_idleLanguagePlayer hidle)
  · exact h

theorem servePlayers (h : PlayersAgree true s) (hidle : isBusy (s.player 0) = false) : PlayersAgree true (servePlayers s) :=
  foldl_keeps (fun _ l ht => ht.serveLanguage l) _ (h.serveDefault hidle)

/-- A raising stops every player: no hold player is left, and emergency control, clear until then, has no player. -/
theorem stopped {r : Raised} {t : State} (h : PlayersAgree false s) (hstopped : ClearedWhere isBusy (every 6) (setRaised (some r) s) t) :
    PlayersAgree true t ∧ ∀ p, isBusy (t.player p) = false := by
  obtain ⟨hplayer, hemergency, hhold⟩ := hstopped
  obtain ⟨hserves, hassigned⟩ := h.none_served
  have hidle : ∀ p, isBusy (t.player p) = false := by
    intro p
    obtain ⟨hsame, htest⟩ | ⟨q, hq⟩ := hplayer p
    · rw [hsame]
      exact htest (mem_every p)
    · rw [hq]
      rfl
  refine ⟨⟨by rw [isRaised, hemergency]; rfl, hhold h.hold, ⟨fun p l hl => ?_, fun c p hp => ?_, fun p o ho hne => ?_⟩,
    fun p o ho => absurd ho (not_ownedBy_of_idle (hidle p) o)⟩, hidle⟩
  · rw [hemergency] at hl
    cases (hserves p).symm.trans hl
  · rw [hemergency] at hp
    cases (hassigned c).symm.trans hp
  · obtain ⟨hsame, -⟩ | ⟨q, hq⟩ := hplayer p
    · rw [hsame] at ho ⊢
      exact h.emergency.2.2 p o ho hne
    · rw [hq] at ho
      cases ho

/-- A clearing makes every player of EMERGENCY idle and takes every assignment back: those were all the players anyone owned. -/
theorem freed {v : Option Raised} {t : State} (h : PlayersAgree true (setRaised v s)) (hclear : isRaised s = false)
    (hfreed : ClearedWhere (ownedBy .emergency) (every 6) s t) : PlayersAgree false (serveNone t) := by
  obtain ⟨hplayer, hemergency, hhold⟩ := hfreed
  refine ⟨?_, hhold h.hold, ⟨fun p l hl => ?_, fun c p hp => ?_, fun p o ho hne => ?_⟩, fun p o ho => ?_⟩
  · rw [← hclear, isRaised, isRaised, ← hemergency]
    rfl
  · cases (Table.get_fill none p).symm.trans hl
  · cases (Table.get_fill none c).symm.trans hp
  · change (t.player p).owner = some o at ho
    change (t.player p).loops = 0
    obtain ⟨hsame, -⟩ | ⟨q, hq⟩ := hplayer p
    · rw [hsame] at ho ⊢
      exact h.emergency.2.2 p o ho hne
    · rw [hq] at ho
      cases ho
  · change ownedBy o (t.player p) = true at ho
    obtain ⟨hsame, htest⟩ | ⟨q, hq⟩ := hplayer p
    · rw [hsame] at ho
      obtain rfl := (h.owners p o ho).2 rfl
      rw [htest (mem_every p)] at ho
      cases ho
    · rw [hq] at ho
      exact absurd ho (not_ownedBy_of_idle rfl o)

theorem stopPlayers (r : Raised) (h : PlayersAgree false s) :
    PlayersAgree true (stopPlayers (setRaised (some r) s)) ∧ ∀ p, isBusy ((stopPlayers (setRaised (some r) s)).player p) = false :=
  h.stopped (clearedWhere_foldl isBusy (every 6) _)

theorem freePlayers {v : Option Raised} (h : PlayersAgree true (setRaised v s)) (hclear : isRaised s = false) :
    PlayersAgree false (freePlayers s) := by
  rw [freePlayers_eq]
  exact h.freed hclear (clearedWhere_foldl (ownedBy .emergency) (every 6) s)

theorem moveChannels {p : PlayerNo} (test : State → ChanNo → Bool) (h : PlayersAgree raised s)
    (hp : ownedBy .emergency (s.player p) = true) : PlayersAgree raised (moveChannels p test s) := by
  refine (foldl_keeps (P := fun t => PlayersAgree raised t ∧ ownedBy .emergency (t.player p) = true) (fun t c ht => ?_) _ ⟨h, hp⟩).1
  obtain ⟨hagree, howned⟩ := ht
  have hunassigned := (unassignEmergency_ownedBy c t .emergency p).trans howned
  exact ⟨(hagree.unassignEmergency c).assignTo fun k hk => by cases hk; exact hunassigned,
    (assignTo_ownedBy c (some p) _ .emergency p).trans hunassigned⟩

theorem emergencySeal (clip : Clip) (h : PlayersAgree raised s) : PlayersAgree raised (emergencySeal clip s) := by
  unfold Machine.emergencySeal
  split
  · next hraised =>
    obtain rfl : true = raised := hraised.symm.trans h.state
    split
    · next hdefault =>
      exact (h.allocate _ [] hdefault.2 (by simp) fun _ => rfl).moveChannels _ (allocate_owned ..)
    · split
      · split
        · next hidle =>
          have hserving := h.servePlayer clip.language clip.id (isBusy_of_idleLanguagePlayer hidle)
          exact hserving.moveChannels _ (allocate_owned ..)
        · exact h
      · exact h
  · exact h

end PlayersAgree

/-! ## The pool's own commands -/

theorem stateAllowed_hold {raised : Bool} (h : StateAllowed raised .hold) : raised = false := by
  cases raised with
  | true => simp [StateAllowed] at h
  | false => rfl

/-- While emergency is raised no channel waits for a hold player, so an offer finds none to serve. -/
theorem offer_of_raised {s : State} (h : ChannelsAgree true s) : offer s = s := by
  have hnone : offeredClip s = none := by
    refine List.findSome?_eq_none_iff.2 fun c _ => if_neg fun hwaits => ?_
    simp only [waitsForPlayer, Bool.and_eq_true, beq_iff_eq] at hwaits
    have hallowed := h c
    rw [hwaits.1.1] at hallowed
    cases stateAllowed_hold hallowed
  unfold offer offerRounds
  split
  · next hclip =>
    rw [hnone] at hclip
    cases hclip
  · rfl

/-- EMERGENCY gains no player from a play that ends. -/
theorem ownedBy_emergency_of_endPlay {k : PlayerNo} {s : State} (p : PlayerNo) (e : PlayEnd)
    (h : ownedBy .emergency ((endPlay p e s).player k) = true) : ownedBy .emergency (s.player k) = true := by
  obtain hsame | hhold := endPlay_player p e s k
  · rw [hsame] at h
    split at h
    · exact absurd h (not_ownedBy_of_idle rfl _)
    · exact h
  · cases hhold.symm.trans ((ownedBy_iff _ _).1 h).2

/-- Every player keeps its part in the pool, and the channels and emergency control stand. -/
structure PartsKept (s t : State) : Prop where
  player : ∀ k, PartKept (s.player k) (t.player k)
  channels : t.channels = s.channels
  emergency : t.emergency = s.emergency

theorem PartsKept.refl (s : State) : PartsKept s s := ⟨fun _ => PartKept.refl _, rfl, rfl⟩

theorem PartsKept.trans {s t u : State} (h : PartsKept s t) (k : PartsKept t u) : PartsKept s u :=
  ⟨fun p => (h.player p).trans (k.player p), k.channels.trans h.channels, k.emergency.trans h.emergency⟩

theorem SamePool.partsKept {s t : State} (h : SamePool s t) : PartsKept s t := by
  obtain ⟨hchannels, hplayers, hemergency, -⟩ := h
  exact ⟨fun k => by simp only [State.player, hplayers]; exact PartKept.refl _, hchannels, hemergency⟩

theorem updPlayer_partsKept (p : PlayerNo) {f : Player → Player} {s : State} (h : PartKept (s.player p) (f (s.player p))) :
    PartsKept s (s.updPlayer p f) := by
  refine ⟨fun k => ?_, rfl, rfl⟩
  rw [State.updPlayer_player]
  split
  · next hk => exact hk ▸ h
  · exact PartKept.refl _

theorem placeRead_partsKept (p : PlayerNo) (s : State) : PartsKept s (placeRead p s) := by
  refine ⟨fun k => ?_, placeRead_channels p s, placeRead_emergency p s⟩
  rw [placeRead_player]
  split
  · exact ⟨rfl, rfl, fun _ h => h, id⟩
  · exact PartKept.refl _

/-- A play's position and loops may move on; an endless play stays endless. -/
theorem advance_partKept (total : Nat) (rest : List Byte) (q : Player) : PartKept q (advance total { q with buffer := rest }) := by
  unfold advance
  split
  · split
    · exact ⟨rfl, rfl, fun _ h => h, id⟩
    · exact ⟨rfl, rfl, fun _ h => h, fun h => by simp [h]⟩
  · exact ⟨rfl, rfl, fun _ h => h, id⟩

theorem giveSample_partsKept (p : PlayerNo) (s : State) : PartsKept s (giveSample p s) := by
  unfold giveSample
  dsimp only
  split
  · split
    · next rest _ =>
      have hgiven := updPlayer_partsKept p (advance_partKept (clipTotal s (clipOrZero (s.player p).clip)) rest (s.player p))
        (f := fun q => advance (clipTotal s (clipOrZero (s.player p).clip)) { q with buffer := rest })
      exact hgiven.trans (placeRead_partsKept p _)
    · have hmarked : PartsKept s (s.updPlayer p fun q => { q with underrun := true }) :=
        updPlayer_partsKept p ⟨rfl, rfl, fun _ h => h, id⟩
      have hnoted := fun d => hmarked.trans (queueNotice_pool .playerUnderrun (.player p) d _).partsKept
      split
      · exact hmarked.trans (placeRead_partsKept p _)
      · exact (hnoted _).trans (placeRead_partsKept p _)
  · exact PartsKept.refl s

theorem giveSamples_partsKept (s : State) : PartsKept s (giveSamples s) :=
  List.foldlRecOn (motive := PartsKept s) (every 6) (fun t p => giveSample p t) (PartsKept.refl s)
    fun t ht p _ => ht.trans (giveSample_partsKept p t)

theorem compute_partsKept (s : State) (fi : FrameInput) : PartsKept s (compute s fi) := ⟨fun _ => PartKept.refl _, rfl, rfl⟩

theorem serveRead_partsKept (q : Fin 7) (s : State) : PartsKept s (serveRead q s) := by
  have hserved : PartsKept s (s.updPath fun r => { r with inService := some q, discard := false, lastServed := q }) :=
    ⟨fun _ => PartKept.refl _, rfl, rfl⟩
  have hread : ∀ {t : State} (p : PlayerNo), PartsKept t (t.updPlayer p fun r => { r with read := .inService }) := fun p =>
    updPlayer_partsKept p ⟨rfl, rfl, fun _ h => h, id⟩
  unfold serveRead
  dsimp only
  split
  · exact hserved.trans (hread _)
  · exact hserved

theorem advanceFetch_partKept (total n : Nat) (q : Player) : PartKept q (advanceFetch total n q) := by
  unfold advanceFetch
  repeat' split
  all_goals exact ⟨rfl, rfl, fun _ h => h, id⟩

/-- A refill that lands may set a filling player playing, which keeps it busy. -/
theorem landRefill_partKept (total : Nat) (codes : List Byte) (q : Player) : PartKept q (landRefill total codes q) := by
  unfold landRefill
  refine PartKept.trans ?_ (advanceFetch_partKept total codes.length _)
  refine ⟨?_, rfl, fun _ h => h, id⟩
  by_cases hfilling : q.state = .filling
  · simp only [isBusy, hfilling, if_true]
    decide
  · simp only [isBusy, if_neg hfilling]

theorem serveRefill_partsKept (p : PlayerNo) (s : State) : PartsKept s (serveRefill p s) := by
  have hended : ∀ t, PartsKept t (freePath t) := fun t => ⟨fun _ => PartKept.refl _, rfl, rfl⟩
  unfold serveRefill
  dsimp only
  refine ((updPlayer_partsKept p ?_).trans (hended _)).trans (placeRead_partsKept p _)
  split
  · exact ⟨rfl, rfl, fun _ h => h, id⟩
  · exact landRefill_partKept _ _ _

namespace PoolAgrees

variable {raised : Bool} {s : State}

theorem samePool {t : State} (hsame : SamePool s t) (h : PoolAgrees raised s) : PoolAgrees raised t :=
  ⟨h.players.samePool hsame, (SameDecisions.of_channels hsame.1).channelsAgree h.channels⟩

theorem decideChannel (c : ChanNo) (h : PoolAgrees raised s) : PoolAgrees raised (decideChannel c s) :=
  h.players.decideEach [c] fun d _ => h.channels d

theorem offer (h : PoolAgrees raised s) : PoolAgrees raised (offer s) := by
  cases raised with
  | true =>
    rw [offer_of_raised h.channels]
    exact h
  | false => exact ⟨h.players.offer, (offer_decisions s).channelsAgree h.channels⟩

/-- A play that is not of EMERGENCY ends. -/
theorem endPlay {p : PlayerNo} (e : PlayEnd) (h : PoolAgrees raised s) (hp : ¬ ownedBy .emergency (s.player p) = true) :
    PoolAgrees raised (endPlay p e s) := by
  have hcleared : PoolAgrees raised (clearPlayer p s) :=
    ⟨h.players.clearPlayer hp, (clearPlayer_decisions p s).channelsAgree h.channels⟩
  unfold Machine.endPlay
  dsimp only
  split
  · exact (hcleared.samePool (queueNotice_pool ..)).offer
  · exact hcleared.offer

/-- The plays of players not owned by EMERGENCY end: an offer gives no player to it. -/
theorem endPlays (ps : List PlayerNo) {s : State} (h : PoolAgrees raised s)
    (hps : ∀ p ∈ ps, ¬ ownedBy .emergency (s.player p) = true) : PoolAgrees raised (endPlays ps s) := by
  induction ps generalizing s with
  | nil => exact h
  | cons p ps ih =>
    refine ih (h.endPlay .completed (hps p List.mem_cons_self)) fun k hk howned => ?_
    exact hps k (List.mem_cons_of_mem p hk) (ownedBy_emergency_of_endPlay p .completed howned)

theorem announce {p : PlayerNo} {isTaken : Bool} (clip loops : Nat) (cs : List ChanNo) (h : PoolAgrees false s)
    (hp : announcePlayer s = some (p, isTaken)) : PoolAgrees false (announce p isTaken clip loops cs s) := by
  have hnone : ¬ ownedBy .emergency (s.player p) = true := fun ho => Bool.false_ne_true ((h.players.owners p _ ho).1 rfl)
  refine ⟨?_, (announce_decisions p isTaken clip loops cs s).channelsAgree h.channels⟩
  unfold announcePlayer at hp
  cases isTaken with
  | false =>
    split at hp
    · next hidle =>
      cases hp
      exact h.players.allocate clip cs (isBusy_of_lowestIdle hidle) (by simp) fun hne => absurd rfl hne
    · cases hhold : lowestHold s with
      | none => rw [hhold] at hp; cases hp
      | some k => rw [hhold] at hp; cases hp
  | true =>
    refine (h.players.clearPlayer hnone).allocate clip cs ?_ (by simp) fun hne => absurd rfl hne
    rw [clearPlayer_player, if_pos rfl]
    rfl

/-! ## Set Channel (06 R104) -/

theorem reholdChannel (c : ChanNo) (before : Channel) (h : PoolAgrees raised s) : PoolAgrees raised (reholdChannel c before s) := by
  refine ⟨?_, (reholdChannel_decisions c before s).channelsAgree h.channels⟩
  unfold Machine.reholdChannel
  dsimp only
  split
  · next hstays =>
    have hallowed := h.channels c
    rw [hstays.2.1] at hallowed
    obtain rfl := stateAllowed_hold hallowed
    split
    · exact (h.players.leaveForNewClip c).requestHold c _
    · exact h.players.leaveForNewClip c
  · exact h.players

theorem reassignChannel (c : ChanNo) (before : ChannelState) (h : PoolAgrees raised s) : PoolAgrees raised (reassignChannel c before s) := by
  refine ⟨?_, (SameDecisions.of_channels (reassignChannel_signals c before s).1).channelsAgree h.channels⟩
  unfold Machine.reassignChannel
  split
  · exact (h.players.unassignEmergency c).assignEmergency c
  · exact h.players

/-- A channel's configuration is not read by the agreement. -/
theorem writeChannel (c : ChanNo) (f : ChannelConfig) (h : PoolAgrees raised s) : PoolAgrees raised (writeChannel c f s) := by
  refine ⟨(h.players.updChannel (c := c) (f := fun ch => { ch with config := f }) fun _ => rfl).updMix c _, fun d => ?_⟩
  rw [Machine.writeChannel, State.updMix_channel, State.updChannel_channel]
  split <;> exact h.channels d

theorem setBound (c : ChanNo) (g : Option GroupNo) (h : PoolAgrees raised s) : PoolAgrees raised (setBound c g s) := by
  refine ⟨h.players.updChannel (c := c) (f := fun ch => { ch with group := g }) fun _ => rfl, fun d => ?_⟩
  rw [Machine.setBound, State.updChannel_channel]
  split <;> exact h.channels d

theorem setChannelTo (c : ChanNo) (f : ChannelConfig) (h : PoolAgrees raised s) : PoolAgrees raised (setChannelTo c f s) :=
  (((h.writeChannel c f).decideChannel c).reholdChannel c _).reassignChannel c _

/-! ## Emergency control (10) -/

theorem raise (cause : RaiseCause) (h : PoolAgrees false s) : PoolAgrees true (raise cause s) := by
  obtain ⟨hstopped, hidle⟩ := h.players.stopPlayers ⟨cause, s.siteTime⟩
  have hdecided : PoolAgrees true (raiseChannels cause s) := (hstopped.servePlayers (hidle 0)).decideAll
  have hreported : PoolAgrees true (reportRaised cause (raiseChannels cause s)) := hdecided.samePool (queueNotice_pool ..)
  exact hreported.samePool (foldl_pool (fun _ _ => queueNotice_pool ..) (preemptedPlayers s) _)

theorem clear (r : Raised) (h : PoolAgrees true s) : PoolAgrees false (clear r s) := by
  obtain ⟨hchannels, hplayers, hemergency, hpath⟩ := reportCleared_pool r (setRaised none s)
  have hrestored := congrArg (fun e : Emergency => { e with raised := s.emergency.raised }) hemergency
  have hraised : PlayersAgree true (setRaised s.emergency.raised (reportCleared r (setRaised none s))) :=
    PlayersAgree.samePool (s := s) ⟨hchannels, hplayers, hrestored, hpath⟩ h.players
  exact (hraised.freePlayers (by rw [isRaised, hemergency]; rfl)).decideAll

theorem tellSealed (good : Bool) (job : ProgramJob) (h : PoolAgrees raised s) : PoolAgrees raised (tellSealed good job s) := by
  unfold Machine.tellSealed
  split
  · split
    · exact ⟨h.offer.players.emergencySeal _, (SameDecisions.of_channels (emergencySeal_signals _ _).1).channelsAgree h.offer.channels⟩
    · exact h
  · exact h

/-! ## Frames and the read path (09 R162, R163) -/

theorem of_parts {t : State} (hkept : PartsKept s t) (h : PoolAgrees raised s) : PoolAgrees raised t :=
  ⟨h.players.of_parts hkept.player (fun c => by simp [State.channel, hkept.channels]) (by rw [hkept.emergency])
    (by rw [hkept.emergency]) (by rw [hkept.emergency]), (SameDecisions.of_channels hkept.channels).channelsAgree h.channels⟩

/-- A play that gives its last sample is not endless, so it is not of EMERGENCY. -/
theorem not_emergency_of_givesLast {p : PlayerNo} (h : PoolAgrees raised s) (hp : givesLast s p = true) :
    ¬ ownedBy .emergency (s.player p) = true := by
  intro ho
  have hendless := h.players.emergency.2.2 p .emergency ((ownedBy_iff _ _).1 ho).2 (by decide)
  simp [givesLast, hendless] at hp

theorem mixFrame (codes : Table Half 16) (h : PoolAgrees raised s) : PoolAgrees raised (mixFrame codes s) := by
  have hgiven := giveSamples_partsKept s
  have hcomputed := fun fi => hgiven.trans (compute_partsKept (giveSamples s) fi)
  refine (h.of_parts (hcomputed _)).endPlays _ fun p hp => ?_
  rw [((hcomputed _).player p).ownedBy]
  exact h.not_emergency_of_givesLast (List.mem_filter.1 hp).2

theorem boot (kind : ResetKind) (straps : Straps) (s : State) : PoolAgrees false (boot kind straps s) := by
  have hloaded := boot_loadedBlocks kind straps s
  have hplayers : (Machine.boot kind straps s).players = State.reset.players := (congrArg State.players (boot_configOnly kind straps s) :)
  have hchannel := hloaded.channels
  have hidle : ∀ p, (Machine.boot kind straps s).player p = idlePlayer := fun p => by
    rw [State.player, hplayers]
    exact reset_player p
  have hemergency := hloaded.emergency
  refine ⟨⟨by rw [isRaised, hemergency]; rfl, fun c p hp => ?_, ⟨fun p l hl => ?_, fun c p hp => ?_, fun p o ho => ?_⟩, fun p o ho => ?_⟩,
    fun c => ?_⟩
  · rw [hchannel c] at hp
    cases hp
  · rw [hemergency] at hl
    cases (reset_serves p).symm.trans hl
  · rw [hemergency] at hp
    cases (reset_assigned c).symm.trans hp
  · rw [hidle p] at ho
    cases ho
  · rw [hidle p] at ho
    exact absurd ho (not_ownedBy_of_idle rfl o)
  · rw [hchannel c]
    simp [StateAllowed, freshChannel]

end PoolAgrees

/-- The pool's records stay in agreement under every operation of the pool. -/
theorem poolHolds_poolLaw : PoolLaw poolHolds where
  samePool hsame h := by
    obtain ⟨raised, hagrees⟩ := (poolHolds_iff _).1 h
    exact (poolHolds_iff _).2 ⟨raised, hagrees.samePool hsame⟩
  setBound c g s h := by
    obtain ⟨raised, hagrees⟩ := (poolHolds_iff _).1 h
    exact (poolHolds_iff _).2 ⟨raised, hagrees.setBound c g⟩
  decideChannel c s h := by
    obtain ⟨raised, hagrees⟩ := (poolHolds_iff _).1 h
    exact (poolHolds_iff _).2 ⟨raised, hagrees.decideChannel c⟩
  setChannelTo c f s h := by
    obtain ⟨raised, hagrees⟩ := (poolHolds_iff _).1 h
    exact (poolHolds_iff _).2 ⟨raised, hagrees.setChannelTo c f⟩
  announce clip loops cs s hclear hp h := by
    obtain ⟨raised, hagrees⟩ := (poolHolds_iff _).1 h
    obtain rfl := hagrees.players.state.symm.trans hclear
    exact (poolHolds_iff _).2 ⟨false, hagrees.announce clip loops cs hp⟩
  stop howner h := by
    obtain ⟨raised, hagrees⟩ := (poolHolds_iff _).1 h
    refine (poolHolds_iff _).2 ⟨raised, hagrees.endPlay .stopped fun ho => ?_⟩
    cases ((ownedBy_iff _ _).1 ho).2.symm.trans howner
  tellSealed good job s h := by
    obtain ⟨raised, hagrees⟩ := (poolHolds_iff _).1 h
    exact (poolHolds_iff _).2 ⟨raised, hagrees.tellSealed good job⟩
  mixFrame codes s h := by
    obtain ⟨raised, hagrees⟩ := (poolHolds_iff _).1 h
    exact (poolHolds_iff _).2 ⟨raised, hagrees.mixFrame codes⟩
  serveRead _ _ h := by
    obtain ⟨raised, hagrees⟩ := (poolHolds_iff _).1 h
    exact (poolHolds_iff _).2 ⟨raised, hagrees.of_parts (serveRead_partsKept _ _)⟩
  serveRefill _ h := by
    obtain ⟨raised, hagrees⟩ := (poolHolds_iff _).1 h
    exact (poolHolds_iff _).2 ⟨raised, hagrees.of_parts (serveRefill_partsKept _ _)⟩
  freePath _ h := h
  setInput _ _ h := h
  raise cause s hclear h := by
    obtain ⟨raised, hagrees⟩ := (poolHolds_iff _).1 h
    obtain rfl := hagrees.players.state.symm.trans hclear
    exact (poolHolds_iff _).2 ⟨true, hagrees.raise cause⟩
  clear hraised h := by
    obtain ⟨raised, hagrees⟩ := (poolHolds_iff _).1 h
    obtain rfl : raised = true := hagrees.players.state.symm.trans (by rw [isRaised, hraised]; rfl)
    exact (poolHolds_iff _).2 ⟨false, hagrees.clear _⟩
  boot kind straps s := (poolHolds_iff _).2 ⟨false, PoolAgrees.boot kind straps s⟩

end Sys2Proof.Machine

namespace Sys2Proof

/-- Settles O10: while emergency is raised no channel waits for a hold player, so no offer serves one; while it is clear no channel is decided
EMERGENCY; a raising stops every player before the channels are decided, and a clearing takes every player of EMERGENCY back. -/
theorem emergencyTakesAll : Obligations.EmergencyTakesAll := fun _ _ hs ht => Machine.poolHolds_poolLaw.step hs ht

end Sys2Proof
end

section
/-! PROOFS. The sample that a companded code expands into (09 R164). -/

namespace Sys2Proof.Machine

/-- The least magnitude is 0 and the greatest 8031, at mantissa 15 and exponent 7. -/
theorem magnitude_le (code : Byte) : magnitude code ≤ 8031 := by
  have hexp : 2 ^ (code.toNat / 16 % 8) ≤ 2 ^ 7 := Nat.pow_le_pow_right (by decide) (by omega)
  have hmant : 2 * (code.toNat % 16) + 33 ≤ 63 := by omega
  have hproduct := Nat.mul_le_mul hmant hexp
  unfold magnitude
  dsimp only
  omega

theorem expand_eq (code : Byte) : expand code = (if code.getLsbD 7 then -4 else 4) * (magnitude code : Int) := by
  have hsign : code.msb = code.getLsbD 7 := BitVec.msb_eq_getLsbD_last code
  unfold expand
  rw [hsign]
  split
  · exact (Int.neg_mul 4 _).symm
  · rfl

theorem expand_bounds (code : Byte) : -32124 ≤ expand code ∧ expand code ≤ 32124 := by
  have hmagnitude := magnitude_le code
  rw [expand_eq]
  split <;> omega

/-- A playing player's sample is its oldest code expanded. -/
theorem sampleOf_playing {q : Player} {code : Byte} {rest : List Byte} (hstate : q.state = .playing) (hbuffer : q.buffer = code :: rest) :
    sampleOf q = expand code := by
  simp [sampleOf, hstate, hbuffer]

/-- Settles O43: a playing player's sample is its oldest code expanded, four times a magnitude of at most 8031. -/
theorem codeExpands : Obligations.CodeExpands := by
  refine ⟨fun q code rest hstate hbuffer => ?_, by decide⟩
  rw [sampleOf_playing hstate hbuffer]
  exact ⟨expand_eq code, magnitude_le code, expand_bounds code⟩

end Sys2Proof.Machine
end

section
/-! PROOFS. What the pool's operations leave of the ports and of the rest of the state, so that an announcement's answer reaches its request
(09 R165 to R169, 11 R187). -/

namespace Sys2Proof.Machine

/-! ## The ports -/

theorem meetReads_samePortStates (s : State) : SamePortStates s (meetReads s) := by
  unfold meetReads
  split
  · exact fun p => by simp
  · exact SamePortStates.refl s

theorem placeRead_samePortStates (p : PlayerNo) (s : State) : SamePortStates s (placeRead p s) := by
  unfold placeRead
  split
  · exact SamePortStates.trans (fun k => by simp) (meetReads_samePortStates _)
  · exact SamePortStates.refl s

theorem setHoldPlayer_samePortStates (v : Option PlayerNo) (cs : List ChanNo) (s : State) : SamePortStates s (setHoldPlayer v cs s) :=
  fun p => by cases p <;> rfl

theorem updPlayer_samePortStates (p : PlayerNo) (f : Player → Player) (s : State) : SamePortStates s (s.updPlayer p f) :=
  fun k => by simp

theorem allocate_samePortStates (p : PlayerNo) (clip : Nat) (o : Owner) (loops : Nat) (cs : List ChanNo) (s : State) :
    SamePortStates s (allocate p clip o loops cs s) := by
  have hwritten := updPlayer_samePortStates p (allocated clip o loops cs) s
  unfold allocate
  dsimp only
  split
  · exact (hwritten.trans (setHoldPlayer_samePortStates _ _ _)).trans (placeRead_samePortStates p _)
  · exact hwritten.trans (placeRead_samePortStates p _)

theorem clearPlayer_samePortStates (p : PlayerNo) (s : State) : SamePortStates s (clearPlayer p s) := by
  have hpath : ∀ f : ReadPath → ReadPath, SamePortStates s (s.updPath f) := fun f k => by simp
  unfold clearPlayer
  dsimp only
  split
  · exact ((hpath _).trans (setHoldPlayer_samePortStates _ _ _)).trans (updPlayer_samePortStates p _ _)
  · exact (hpath _).trans (updPlayer_samePortStates p _ _)

theorem offerRounds_samePortStates (n : Nat) (s : State) : SamePortStates s (offerRounds n s) := by
  induction n generalizing s with
  | zero => exact SamePortStates.refl s
  | succ n ih =>
    unfold offerRounds
    split
    · exact (allocate_samePortStates _ _ _ _ _ _).trans (ih _)
    · exact SamePortStates.refl s

theorem endPlay_samePortStates (p : PlayerNo) (e : PlayEnd) (s : State) : SamePortStates s (endPlay p e s) := by
  have hcleared := clearPlayer_samePortStates p s
  unfold endPlay
  dsimp only
  split
  · exact (hcleared.trans (queueNotice_samePortStates _ _ _ _)).trans (offerRounds_samePortStates 6 _)
  · exact hcleared.trans (offerRounds_samePortStates 6 _)

theorem announce_samePortStates (p : PlayerNo) (taken : Bool) (clip loops : Nat) (cs : List ChanNo) (s : State) :
    SamePortStates s (announce p taken clip loops cs s) := by
  cases taken
  · exact allocate_samePortStates p clip .announce loops cs s
  · exact (clearPlayer_samePortStates p s).trans (allocate_samePortStates p clip .announce loops cs _)

/-! ## The pool's records under an answer -/

@[simp] theorem answerPort_player (p : PortId) (a : Answer) (s : State) (k : PlayerNo) : (answerPort p a s).player k = s.player k := by
  simp [State.player]

@[simp] theorem answerPort_channel (p : PortId) (a : Answer) (s : State) (c : ChanNo) : (answerPort p a s).channel c = s.channel c := by
  simp [State.channel]

/-! ## Emergency control -/

@[simp] theorem offerRounds_emergency (n : Nat) (s : State) : (offerRounds n s).emergency = s.emergency := by
  induction n generalizing s with
  | zero => rfl
  | succ n ih =>
    unfold offerRounds
    split
    · rw [ih, allocate_emergency]
    · rfl

@[simp] theorem endPlay_emergency (p : PlayerNo) (e : PlayEnd) (s : State) : (endPlay p e s).emergency = s.emergency := by
  unfold endPlay offer
  dsimp only
  split <;> simp

@[simp] theorem announce_emergency (p : PlayerNo) (taken : Bool) (clip loops : Nat) (cs : List ChanNo) (s : State) :
    (announce p taken clip loops cs s).emergency = s.emergency := by
  cases taken <;> simp [announce]

/-! ## The rest of the state -/

/-- Nothing but the channels, the players, the read path, the store's own record and the ports differs. -/
def PlaysOnly (s t : State) : Prop :=
  SameButPorts { s with players := t.players, channels := t.channels, path := t.path, store := t.store } t

/-- An operation of the pool that writes neither the mix items nor emergency control writes its own records alone. -/
theorem PlanFrame.playsOnly {s t : State} (h : PlanFrame s t) (hmix : t.mix = s.mix) (hemergency : t.emergency = s.emergency) :
    PlaysOnly s t := by
  cases s
  cases t
  cases h
  simp_all [PlaysOnly, SameButPorts]

theorem endPlay_playsOnly (p : PlayerNo) (e : PlayEnd) (s : State) : PlaysOnly s (endPlay p e s) :=
  (endPlay_frame p e s).playsOnly (endPlay_mix p e s) (endPlay_emergency p e s)

theorem announce_playsOnly (p : PlayerNo) (taken : Bool) (clip loops : Nat) (cs : List ChanNo) (s : State) :
    PlaysOnly s (announce p taken clip loops cs s) :=
  (announce_frame ..).playsOnly (announce_mix ..) (announce_emergency ..)

/-- The answer to the request changes its port alone. -/
theorem PlaysOnly.answerPort {s t : State} (h : PlaysOnly s t) (p : PortId) (a : Answer) : PlaysOnly s (Machine.answerPort p a t) := by
  have hanswered := congrArg (fun x : State => { x with desk := s.desk, transmitter := s.transmitter, operations := s.operations })
    (answerPort_sameButPorts p a t)
  have hplays := congrArg (fun x : State =>
    { x with
      players := (Machine.answerPort p a t).players, channels := (Machine.answerPort p a t).channels,
      path := (Machine.answerPort p a t).path, store := (Machine.answerPort p a t).store }) h
  have hfields := congrArg (fun x : State =>
    { x with
      players := (Machine.answerPort p a t).players, channels := (Machine.answerPort p a t).channels,
      path := (Machine.answerPort p a t).path, store := (Machine.answerPort p a t).store }) hanswered
  exact hfields.trans hplays

theorem PlaysOnly.of_channels {s t : State} (h : PlaysOnly s t) (hchannels : t.channels = s.channels) :
    SameButPorts { s with players := t.players, path := t.path, store := t.store } t := by
  unfold PlaysOnly at h
  rw [hchannels] at h
  exact h

end Sys2Proof.Machine
end

section
/-! PROOFS. Start Announcement and Stop Player (09 R165 to R169): the player that an announcement takes, what it writes, and what ends it. -/

namespace Sys2Proof.Machine

/-! ## Stop Player (09 R169) -/

section
variable {q : Req} {p : PlayerNo} {s : State} (h : InHand .stopPlayer q s)
include h

theorem stopPlayer_of_idle (hidle : (s.player p).state = .idle) :
    exec (.stopPlayer q p.val) s =
      .next (answerPort q.port ⟨.ok, { noCond with c := true }, stoppedData (s.player p)⟩ s) := by
  refine congrArg Host.Outcome.next (h.serve ?_)
  simp [inRange_val, isBusy, hidle]

theorem stopPlayer_of_announce (hbusy : (s.player p).state ≠ .idle) (howner : (s.player p).owner = some .announce) :
    exec (.stopPlayer q p.val) s =
      .next (answerPort q.port (ok (stoppedData (s.player p))) (endPlay p .stopped s)) := by
  refine congrArg Host.Outcome.next (h.serve ?_)
  simp [inRange_val, isBusy, hbusy, howner]

end

/-- A player whose play has ended is no longer owned by ANNOUNCE, whatever the offer that follows makes of it. -/
theorem endPlay_owner (p : PlayerNo) (e : PlayEnd) (s : State) : ((endPlay p e s).player p).owner ≠ some .announce := by
  obtain hcleared | hhold := endPlay_player p e s p
  · simp [hcleared, cleared, idlePlayer]
  · simp [hhold]

/-! ## The checks of Start Announcement (09 R167) -/

/-- The request of an announcement passes its checks but the last, for a player. -/
structure Announceable (clip loops : Nat) (cs : List Nat) (s : State) : Prop where
  clipRange : 1 ≤ clip ∧ clip ≤ 96
  loopRange : 1 ≤ loops ∧ loops ≤ 15
  length : 1 ≤ cs.length ∧ cs.length ≤ 12
  channelRange : ∀ c ∈ cs, c ≤ 11
  nodup : cs.Nodup
  valid : clipIsValid s clip = true
  clear : isRaised s = false

/-- No channel of a list of channels up to 11, each named once and none seen before, is bad. -/
theorem badChannel_eq_none {cs seen : List Nat} (i : Nat) (hrange : ∀ c ∈ cs, c ≤ 11) (hnodup : cs.Nodup) (hnew : ∀ c ∈ cs, c ∉ seen) :
    badChannel cs seen i = none := by
  induction cs generalizing seen i with
  | nil => rfl
  | cons c rest ih =>
    obtain ⟨hc, hrest⟩ := List.nodup_cons.1 hnodup
    have hgood : ¬ (11 < c ∨ c ∈ seen) := not_or.2 ⟨Nat.not_lt.2 (hrange c List.mem_cons_self), hnew c List.mem_cons_self⟩
    rw [badChannel, if_neg hgood]
    refine ih (i + 1) (fun d hd => hrange d (List.mem_cons_of_mem c hd)) hrest fun d hd => ?_
    rw [List.mem_cons, not_or]
    exact ⟨fun heq => hc (heq ▸ hd), hnew d (List.mem_cons_of_mem c hd)⟩

theorem lowestIdle_eq_none {s : State} (hbusy : ∀ k, (s.player k).state ≠ .idle) : lowestIdle s = none :=
  find_every_eq_none fun k => by simp [isBusy, hbusy k]

theorem announcePlayer_of_idle {s : State} {p : PlayerNo} (hidle : (s.player p).state = .idle)
    (hlow : ∀ k, k.val < p.val → (s.player k).state ≠ .idle) : announcePlayer s = some (p, false) := by
  have hlowest : lowestIdle s = some p := find_every_eq_some (by simp [isBusy, hidle]) fun k hk => by simp [isBusy, hlow k hk]
  simp [announcePlayer, hlowest]

theorem announcePlayer_of_hold {s : State} {p : PlayerNo} (hbusy : ∀ k, (s.player k).state ≠ .idle)
    (howner : (s.player p).owner = some .hold) (hlow : ∀ k, k.val < p.val → (s.player k).owner ≠ some .hold) :
    announcePlayer s = some (p, true) := by
  have hlowest : lowestHold s = some p :=
    find_every_eq_some (by simp [ownedBy, isBusy, hbusy p, howner]) fun k hk => by simp [ownedBy, hlow k hk]
  simp [announcePlayer, lowestIdle_eq_none hbusy, hlowest]

/-- The channels of an announcement that would carry it now (09 R168). -/
def audibleCount (cs : List Nat) (s : State) : Nat := ((listedChannels cs).filter (isAudible s)).length

/-- What an accepted Start Announcement answers (09 R168). -/
def announceAnswer (p : PlayerNo) (taken : Bool) (clip : Nat) (cs : List Nat) (s : State) : Answer :=
  ⟨.ok, { noCond with z := audibleCount cs s == 0 }, .announced p (clipTotal s clip) (audibleCount cs s) (lostHold s p taken)⟩

theorem startAnnouncement_accepted {q : Req} {clip loops : Nat} {cs : List Nat} {p : PlayerNo} {taken : Bool} {s : State}
    (h : InHand .startAnnouncement q s) (hok : Announceable clip loops cs s) (hplayer : announcePlayer s = some (p, taken)) :
    exec (.startAnnouncement q clip loops cs) s =
      .next (answerPort q.port (announceAnswer p taken clip cs s) (announce p taken clip loops (listedChannels cs) s)) := by
  obtain ⟨hclip, hloops, hlength, hchannels, hnodup, hvalid, hclear⟩ := hok
  have hbad : badChannel cs [] 0 = none := badChannel_eq_none 0 hchannels hnodup fun _ _ => List.not_mem_nil
  have hnumber : clipNumber clip = some clip := if_pos hclip
  refine congrArg Host.Outcome.next (h.serve ?_)
  dsimp only
  rw [if_neg (by omega), if_neg (by simp [hnumber]; omega), hbad, hplayer]
  simp [hvalid, hclear, announceAnswer, audibleCount]

/-! ## What an announcement writes (09 R166, R168) -/

theorem mem_listedChannels (cs : List Nat) (c : ChanNo) : c ∈ listedChannels cs ↔ c.val ∈ cs := by
  simp [listedChannels, mem_every]

section
variable (p : PlayerNo) (clip loops : Nat) (cs : List ChanNo) (s : State)

/-- An announcement on an IDLE player writes no channel: hold players are set for HOLD alone. -/
theorem announce_channels : (announce p false clip loops cs s).channels = s.channels := by
  simp [announce, allocate]

theorem announce_player (tk : Bool) (k : PlayerNo) :
    (announce p tk clip loops cs s).player k =
      if p = k then taken clip .announce loops cs (if tk then cleared (s.player k) else s.player k) else s.player k := by
  unfold announce
  rw [allocate_player]
  by_cases hk : p = k
  · cases tk <;> simp [clearPlayer_player, hk]
  · cases tk <;> simp [clearPlayer_player, hk]

/-- A player taken over from HOLD is lost to the channels that it served. -/
theorem announce_holdPlayer {c : ChanNo} (howner : (s.player p).owner = some .hold) (hc : c ∈ (s.player p).channels) :
    ((announce p true clip loops cs s).channel c).holdPlayer = none := by
  simp [announce, allocate_holdPlayer, clearPlayer_holdPlayer, howner, hc]

end

/-- Settles O44: the player taken is the one that the search finds, an allocation writes its record alone, and the operations of the pool reach
neither the ports nor what lies outside the plays. -/
theorem announcementsStartAndStop : Obligations.AnnouncementsStartAndStop := by
  refine ⟨fun q p s h => ⟨stopPlayer_of_idle h, fun hbusy howner => ?stop⟩, ?start⟩
  case stop =>
    refine ⟨_, stopPlayer_of_announce h hbusy howner, ?_, (endPlay_samePortStates p .stopped s).answered, fun c => ?_,
      (endPlay_playsOnly p .stopped s).answerPort q.port _⟩
    · simpa using endPlay_owner p .stopped s
    · obtain ⟨hconfig, -, hstate, -⟩ := endPlay_decisions p .stopped s c
      simpa using And.intro hstate hconfig
  case start =>
    intro q clip loops cs p s h hclip hclip' hloops hloops' hlength hlength' hrange hnodup hvalid hclear written
    have hok : Announceable clip loops cs s := ⟨⟨hclip, hclip'⟩, ⟨hloops, hloops'⟩, ⟨hlength, hlength'⟩, hrange, hnodup, hvalid, hclear⟩
    have hwritten : ∀ tk a, written (answerPort q.port a (announce p tk clip loops (listedChannels cs) s)) := by
      intro tk a
      simp only [written, answerPort_player, announce_player, if_true]
      exact ⟨rfl, rfl, rfl, rfl, rfl, rfl, mem_listedChannels cs, fun k hk => if_neg hk.symm⟩
    refine ⟨fun hidle hlow => ?idle, fun hbusy howner hlow => ?hold⟩
    case idle =>
      refine ⟨_, _, _, startAnnouncement_accepted h hok (announcePlayer_of_idle hidle hlow), hwritten false _,
        (announce_samePortStates _ _ _ _ _ _).answered, ((announce_playsOnly ..).answerPort q.port _).of_channels ?_⟩
      simpa using announce_channels p clip loops (listedChannels cs) s
    case hold =>
      refine ⟨_, _, _, startAnnouncement_accepted h hok (announcePlayer_of_hold hbusy howner hlow), hwritten true _, fun c hc => ?_,
        (announce_samePortStates _ _ _ _ _ _).answered, (announce_playsOnly ..).answerPort q.port _⟩
      simpa using announce_holdPlayer p clip loops (listedChannels cs) s howner hc

end Sys2Proof.Machine
end

section
/-! PROOFS. What hold service, emergency's players and the channel decisions leave alone (06 R110 to R116, 09 R165 to R172, 10 R178): the ports'
states, the raising of emergency and its input, and that a player that plays has an owner. -/

namespace Sys2Proof.Machine

/-! ## Hold service gives EMERGENCY no player (09 R165 to R172) -/

/-- A player that plays has an owner. -/
def HasOwner (q : Player) : Prop := isBusy q = true → q.owner.isSome = true

/-- The ports' states and emergency control stand, EMERGENCY gains no player, and a player with an owner, or idle, stays so. -/
structure HoldServed (s t : State) : Prop where
  ports : SamePortStates s t
  emergency : t.emergency = s.emergency
  gains : ∀ k, ownedBy .emergency (t.player k) = true → ownedBy .emergency (s.player k) = true
  owner : ∀ k, HasOwner (s.player k) → HasOwner (t.player k)

namespace HoldServed

variable {s : State}

theorem refl (s : State) : HoldServed s s := ⟨SamePortStates.refl s, rfl, fun _ => id, fun _ => id⟩

theorem trans {t u : State} (h : HoldServed s t) (k : HoldServed t u) : HoldServed s u :=
  ⟨h.ports.trans k.ports, k.emergency.trans h.emergency, fun p hp => h.gains p (k.gains p hp), fun p hp => k.owner p (h.owner p hp)⟩

/-- The players' records stand. -/
theorem of_players {t : State} (hports : SamePortStates s t) (hemergency : t.emergency = s.emergency) (hplayers : t.players = s.players) :
    HoldServed s t :=
  ⟨hports, hemergency, fun _ => by simp [State.player, hplayers], fun _ => by simp [State.player, hplayers]⟩

theorem queueNotice (k : NoticeKind) (j : Subject) (d : Detail) (s : State) : HoldServed s (queueNotice k j d s) :=
  of_players (queueNotice_samePortStates k j d s) (by simp) (by simp)

theorem setHoldPlayer (v : Option PlayerNo) (cs : List ChanNo) (s : State) : HoldServed s (setHoldPlayer v cs s) :=
  of_players (setHoldPlayer_samePortStates v cs s) rfl rfl

theorem allocate (p : PlayerNo) (clip loops : Nat) (cs : List ChanNo) (s : State) :
    HoldServed s (allocate p clip .hold loops cs s) := by
  refine ⟨allocate_samePortStates p clip .hold loops cs s, allocate_emergency .., fun k => ?_, fun k => ?_⟩
  · rw [allocate_player]
    split
    · exact fun ho => by cases ((ownedBy_iff _ _).1 ho).2
    · exact id
  · rw [allocate_player]
    split
    · exact fun _ _ => rfl
    · exact id

theorem clearPlayer (p : PlayerNo) (s : State) : HoldServed s (clearPlayer p s) := by
  refine ⟨clearPlayer_samePortStates p s, clearPlayer_emergency p s, fun k => ?_, fun k => ?_⟩
  · rw [clearPlayer_player]
    split
    · exact fun ho => absurd ho (not_ownedBy_of_idle rfl _)
    · exact id
  · rw [clearPlayer_player]
    split
    · exact fun _ hbusy => by cases hbusy
    · exact id

theorem updPlayer_channels (p : PlayerNo) (f : List ChanNo → List ChanNo) (s : State) :
    HoldServed s (s.updPlayer p fun q => { q with channels := f q.channels }) := by
  refine ⟨updPlayer_samePortStates p _ s, rfl, fun k => ?_, fun k => ?_⟩
  all_goals
    rw [State.updPlayer_player]
    split <;> exact id

theorem joinPlayer (p : PlayerNo) (c : ChanNo) (s : State) : HoldServed s (joinPlayer p c s) := updPlayer_channels p (insertNo c) s

theorem leavePlayer (p : PlayerNo) (c : ChanNo) (s : State) : HoldServed s (leavePlayer p c s) :=
  updPlayer_channels p (·.filter (· != c)) s

theorem offerRounds (n : Nat) (s : State) : HoldServed s (offerRounds n s) := by
  induction n generalizing s with
  | zero => exact refl s
  | succ n ih =>
    unfold Machine.offerRounds
    split
    · exact (allocate ..).trans (ih _)
    · exact refl s

theorem endPlay (p : PlayerNo) (e : PlayEnd) (s : State) : HoldServed s (endPlay p e s) := by
  unfold Machine.endPlay
  dsimp only
  split
  · exact ((clearPlayer p s).trans (queueNotice ..)).trans (offerRounds 6 _)
  · exact (clearPlayer p s).trans (offerRounds 6 _)

theorem requestHold (c : ChanNo) (clip : Nat) (s : State) : HoldServed s (requestHold c clip s) := by
  unfold Machine.requestHold
  split
  · exact (joinPlayer _ c s).trans (setHoldPlayer ..)
  · split
    · split
      · exact allocate ..
      · exact refl s
    · exact refl s

theorem leaveHold (c : ChanNo) (s : State) : HoldServed s (leaveHold c s) := by
  unfold Machine.leaveHold
  split
  · exact refl s
  · next p _ =>
    have hleft := (leavePlayer p c s).trans (setHoldPlayer none [c] _)
    dsimp only
    split
    · exact hleft.trans (endPlay ..)
    · exact hleft

theorem enterHold (c : ChanNo) (s : State) : HoldServed s (enterHold c s) := by
  unfold Machine.enterHold
  dsimp only
  split
  · exact (queueNotice ..).trans (requestHold ..)
  · exact queueNotice ..

end HoldServed

/-! ## Decisions leave the ports' states and emergency's raising (06 R110, 10 R178) -/

/-- The ports' states, the raising of emergency and its input stand, and a player with an owner, or idle, stays so. -/
structure CallKept (s t : State) : Prop where
  ports : SamePortStates s t
  raised : t.emergency.raised = s.emergency.raised
  input : t.emergency.input = s.emergency.input
  owner : ∀ k, HasOwner (s.player k) → HasOwner (t.player k)

theorem HoldServed.callKept {s t : State} (h : HoldServed s t) : CallKept s t :=
  ⟨h.ports, by rw [h.emergency], by rw [h.emergency], h.owner⟩

namespace CallKept

variable {s : State}

theorem refl (s : State) : CallKept s s := (HoldServed.refl s).callKept

theorem trans {t u : State} (h : CallKept s t) (k : CallKept t u) : CallKept s u :=
  ⟨h.ports.trans k.ports, k.raised.trans h.raised, k.input.trans h.input, fun p hp => k.owner p (h.owner p hp)⟩

/-- A fold of steps that each keep the call keeps it. -/
theorem foldl {α : Type} {f : State → α → State} (h : ∀ s a, CallKept s (f s a)) (l : List α) (s : State) : CallKept s (l.foldl f s) :=
  List.foldlRecOn (motive := CallKept s) l f (refl s) fun t ht a _ => ht.trans (h t a)

theorem isRaised {t : State} (h : CallKept s t) : isRaised t = isRaised s := congrArg Option.isSome h.raised

theorem queueNotice (k : NoticeKind) (j : Subject) (d : Detail) (s : State) : CallKept s (queueNotice k j d s) :=
  (HoldServed.queueNotice k j d s).callKept

theorem updMix (c : ChanNo) (f : Mix → Mix) (s : State) : CallKept s (s.updMix c f) := ⟨fun p => by cases p <;> rfl, rfl, rfl, fun _ => id⟩

theorem updChannel (c : ChanNo) (f : Channel → Channel) (s : State) : CallKept s (s.updChannel c f) :=
  ⟨fun p => by cases p <;> rfl, rfl, rfl, fun _ => id⟩

theorem setAssigned (c : ChanNo) (v : Option PlayerNo) (s : State) : CallKept s (setAssigned c v s) :=
  ⟨fun p => by cases p <;> rfl, rfl, rfl, fun _ => id⟩

theorem setServes (p : PlayerNo) (v : Option Lang) (s : State) : CallKept s (setServes p v s) :=
  ⟨fun p => by cases p <;> rfl, rfl, rfl, fun _ => id⟩

theorem serveNone (s : State) : CallKept s (serveNone s) := ⟨fun p => by cases p <;> rfl, rfl, rfl, fun _ => id⟩

theorem assignTo (c : ChanNo) (v : Option PlayerNo) (s : State) : CallKept s (assignTo c v s) := by
  cases v with
  | none => exact setAssigned c none s
  | some p => exact (setAssigned c (some p) s).trans (HoldServed.joinPlayer p c _).callKept

theorem unassignEmergency (c : ChanNo) (s : State) : CallKept s (unassignEmergency c s) := by
  unfold Machine.unassignEmergency
  split
  · exact (HoldServed.leavePlayer _ c s).callKept.trans (setAssigned ..)
  · exact refl s

theorem leaveState (c : ChanNo) (old new : ChannelState) (s : State) : CallKept s (leaveState c old new s) := by
  unfold Machine.leaveState
  split
  · exact (HoldServed.leaveHold c s).callKept
  · split
    · exact (unassignEmergency c s).trans (updMix ..)
    · exact refl s

theorem enterState (c : ChanNo) (old new : ChannelState) (s : State) : CallKept s (enterState c old new s) := by
  unfold Machine.enterState
  split
  · exact (HoldServed.enterHold c s).callKept
  · split
    · exact (assignTo c _ s).trans (updMix ..)
    · exact refl s

theorem decideChannel (c : ChanNo) (s : State) : CallKept s (decideChannel c s) :=
  ((updChannel c _ s).trans (leaveState ..)).trans (enterState ..)

theorem decideAll (s : State) : CallKept s (decideAll s) := foldl (fun t c => decideChannel c t) (every 12) s

/-! ## Emergency's players (10 R176, R177, R182) -/

/-- An allocated player has an owner. -/
theorem allocate (p : PlayerNo) (clip : Nat) (o : Owner) (loops : Nat) (cs : List ChanNo) (s : State) :
    CallKept s (allocate p clip o loops cs s) := by
  refine ⟨allocate_samePortStates p clip o loops cs s, by simp, by simp, fun k => ?_⟩
  rw [allocate_player]
  split
  · exact fun _ _ => rfl
  · exact id

theorem serveDefault (s : State) : CallKept s (serveDefault s) := by
  unfold Machine.serveDefault
  split
  · split
    · exact allocate ..
    · exact refl s
  · exact refl s

theorem serveLanguage (l : Lang) (s : State) : CallKept s (serveLanguage l s) := by
  unfold Machine.serveLanguage
  split
  · exact (allocate ..).trans (setServes ..)
  · exact refl s

theorem servePlayers (s : State) : CallKept s (servePlayers s) :=
  (serveDefault s).trans (foldl (fun t l => serveLanguage l t) _ _)

/-- A player cleared where a test holds. -/
theorem clearIf (b : Bool) (p : PlayerNo) (s : State) : CallKept s (if b = true then clearPlayer p s else s) := by
  cases b
  · exact refl s
  · exact (HoldServed.clearPlayer p s).callKept

theorem stopPlayers (s : State) : CallKept s (stopPlayers s) := foldl (fun t p => clearIf (isBusy (t.player p)) p t) (every 6) s

theorem freePlayers (s : State) : CallKept s (freePlayers s) := by
  rw [freePlayers_eq]
  exact (foldl (fun t p => clearIf (ownedBy .emergency (t.player p)) p t) (every 6) s).trans (serveNone _)

end CallKept

theorem setRaised_samePortStates (v : Option Raised) (s : State) : SamePortStates s (setRaised v s) := fun p => by cases p <;> rfl

/-- The operations of a raising after its first step (10 R176). -/
theorem raise_callKept (cause : RaiseCause) (s : State) : CallKept (setRaised (some ⟨cause, s.siteTime⟩) s) (raise cause s) :=
  have hdecided := ((CallKept.stopPlayers _).trans (CallKept.servePlayers _)).trans (CallKept.decideAll _)
  (hdecided.trans (CallKept.queueNotice ..)).trans (CallKept.foldl (fun _ _ => CallKept.queueNotice ..) (preemptedPlayers s) _)

/-- The operations of a clearing after its first step (10 R182). -/
theorem clear_callKept (r : Raised) (s : State) : CallKept (setRaised none s) (clear r s) :=
  ((CallKept.queueNotice ..).trans (CallKept.freePlayers _)).trans (CallKept.decideAll _)

theorem raise_samePortStates (cause : RaiseCause) (s : State) : SamePortStates s (raise cause s) :=
  (setRaised_samePortStates _ s).trans (raise_callKept cause s).ports

theorem clear_samePortStates (r : Raised) (s : State) : SamePortStates s (clear r s) :=
  (setRaised_samePortStates none s).trans (clear_callKept r s).ports

/-! ## What every channel's decision gives it (06 R112) -/

/-- Players made IDLE leave every channel its decision. -/
theorem clearWhere_decisions (test : Player → Bool) (ps : List PlayerNo) (s : State) :
    SameDecisions s (ps.foldl (fun t p => if test (t.player p) then clearPlayer p t else t) s) := by
  induction ps generalizing s with
  | nil => exact SameDecisions.refl s
  | cons p ps ih =>
    rw [List.foldl_cons]
    split
    · exact (clearPlayer_decisions p s).trans (ih _)
    · exact ih s

/-- A channel's state is the one that the table of channel states gives it. -/
def Decided (raised : Bool) (ch : Channel) : Prop :=
  ch.state = if mustBeOff ch then .off else if raised then .emergency else if ch.primary.isSome then .live else .hold

theorem mustBeOff_congr {ch ch' : Channel} (hconfig : ch'.config = ch.config) (hgroup : ch'.group = ch.group) :
    mustBeOff ch' = mustBeOff ch := by
  simp only [mustBeOff, hconfig, hgroup]

theorem decideChannel_configs (c : ChanNo) (s : State) : SameConfigs s (decideChannel c s) := fun k => by
  obtain ⟨hconfig, hgroup, -⟩ := decideChannel_channel c s k
  exact ⟨hconfig, hgroup⟩

theorem decideEach_configs (cs : List ChanNo) (s : State) : SameConfigs s (decideEach cs s) :=
  List.foldlRecOn (motive := SameConfigs s) cs (fun t c => decideChannel c t) (SameConfigs.refl s)
    fun t ht c _ => ht.trans (decideChannel_configs c t)

/-- A decision gives its own channel its state and leaves the others theirs. -/
theorem decideChannel_decided {c k : ChanNo} {s : State} (h : c = k ∨ Decided (isRaised s) (s.channel k)) :
    Decided (isRaised s) ((decideChannel c s).channel k) := by
  obtain ⟨hconfig, hgroup, hstate, hprimary⟩ := decideChannel_channel c s k
  unfold Decided
  rw [mustBeOff_congr hconfig hgroup, hstate, hprimary]
  by_cases hk : c = k
  · subst hk
    rw [if_pos rfl, if_pos rfl]
    rfl
  · rw [if_neg hk, if_neg hk]
    exact h.resolve_left hk

theorem decideEach_decided (cs : List ChanNo) {s : State} (hrest : ∀ k, k ∉ cs → Decided (isRaised s) (s.channel k)) (k : ChanNo) :
    Decided (isRaised s) ((decideEach cs s).channel k) := by
  induction cs generalizing s with
  | nil => exact hrest k List.not_mem_nil
  | cons c cs ih =>
    rw [← (CallKept.decideChannel c s).isRaised] at hrest ⊢
    refine ih fun d hd => ?_
    rw [(CallKept.decideChannel c s).isRaised] at hrest ⊢
    refine decideChannel_decided ?_
    by_cases hc : c = d
    · exact .inl hc
    · refine .inr (hrest d fun hmem => ?_)
      exact (List.mem_cons.1 hmem).elim (fun he => hc he.symm) hd

/-- Every channel decided has the state that the table gives it, by its configuration and bound group as they were. -/
theorem decideAll_state (s : State) (c : ChanNo) :
    ((decideAll s).channel c).state = if mustBeOff (s.channel c) then .off else if isRaised s then .emergency
      else if ((decideAll s).channel c).primary.isSome then .live else .hold := by
  obtain ⟨hconfig, hgroup⟩ := decideEach_configs (every 12) s c
  rw [← mustBeOff_congr hconfig hgroup]
  exact decideEach_decided (every 12) (fun k hk => absurd (mem_every k) hk) c

end Sys2Proof.Machine
end

section
/-! PROOFS. Clear Emergency (10 R181, R182): the players of EMERGENCY freed, and every channel decided again. -/

namespace Sys2Proof.Machine

/-! ## Emergency at rest -/

/-- Emergency is clear and its service at rest: it serves no language and no channel, and has no player. -/
structure AtRest (s : State) : Prop where
  clear : isRaised s = false
  serves : ∀ p, s.emergency.serves.get p = none
  assigned : ∀ c, s.emergency.assigned.get c = none
  owned : ∀ p, ownedBy .emergency (s.player p) = false

namespace AtRest

variable {s : State}

/-- Hold service gives EMERGENCY nothing. -/
theorem holdServed {t : State} (hserved : HoldServed s t) (h : AtRest s) : AtRest t := by
  obtain ⟨hclear, hserves, hassigned, howned⟩ := h
  have hemergency := hserved.emergency
  refine ⟨by rw [isRaised, hemergency]; exact hclear, by rwa [hemergency], by rwa [hemergency], fun p => ?_⟩
  refine Bool.eq_false_iff.2 fun ho => ?_
  cases (howned p).symm.trans (hserved.gains p ho)

theorem updMix (c : ChanNo) (f : Mix → Mix) (h : AtRest s) : AtRest (s.updMix c f) := ⟨h.clear, h.serves, h.assigned, h.owned⟩

theorem updChannel (c : ChanNo) (f : Channel → Channel) (h : AtRest s) : AtRest (s.updChannel c f) :=
  ⟨h.clear, h.serves, h.assigned, h.owned⟩

theorem leaveState (c : ChanNo) (old new : ChannelState) (h : AtRest s) : AtRest (leaveState c old new s) := by
  unfold Machine.leaveState
  split
  · exact h.holdServed (HoldServed.leaveHold c s)
  · split
    · rw [unassignEmergency, h.assigned c]
      exact h.updMix c _
    · exact h

theorem enterState (c : ChanNo) (old : ChannelState) {new : ChannelState} (hnew : new ≠ .emergency) (h : AtRest s) :
    AtRest (enterState c old new s) := by
  unfold Machine.enterState
  split
  · exact h.holdServed (HoldServed.enterHold c s)
  · rw [if_neg fun hentry => hnew hentry.1]
    exact h

/-- While emergency is clear no decision makes a channel EMERGENCY. -/
theorem decidedState_ne (h : AtRest s) (c : ChanNo) : decidedState s c ≠ .emergency := by
  unfold decidedState
  rw [h.clear]
  split
  · decide
  · rw [if_neg Bool.false_ne_true]
    split <;> decide

theorem decideChannel (c : ChanNo) (h : AtRest s) : AtRest (decideChannel c s) :=
  ((h.updChannel c _).leaveState c _ _).enterState c _ (h.decidedState_ne c)

theorem decideEach (cs : List ChanNo) (h : AtRest s) : AtRest (decideEach cs s) := foldl_keeps (fun _ c ht => ht.decideChannel c) cs h

end AtRest

/-- The freeing of the players leaves emergency at rest, whatever its records held (10 R182 step 3). -/
theorem serveNone_atRest {s t : State} (hclear : isRaised s = false) (hfreed : ClearedWhere (ownedBy .emergency) (every 6) s t) :
    AtRest (serveNone t) := by
  obtain ⟨hplayer, hemergency, -⟩ := hfreed
  have hstill : isRaised t = false := by rw [isRaised, hemergency]; exact hclear
  refine ⟨hstill, Table.get_fill none, Table.get_fill none, fun p => ?_⟩
  change ownedBy .emergency (t.player p) = false
  obtain ⟨hsame, htest⟩ | ⟨q, hq⟩ := hplayer p
  · rw [hsame]
    exact htest (mem_every p)
  · rw [hq]
    rfl

theorem freePlayers_atRest {s : State} (hclear : isRaised s = false) : AtRest (freePlayers s) := by
  rw [freePlayers_eq]
  exact serveNone_atRest hclear (clearedWhere_foldl (ownedBy .emergency) (every 6) s)

/-- The state in which a clearing decides the channels. -/
def beforeReturns (r : Raised) (s : State) : State := freePlayers (reportCleared r (setRaised none s))

theorem clear_eq (r : Raised) (s : State) : clear r s = decideAll (beforeReturns r s) := rfl

theorem beforeReturns_atRest (r : Raised) (s : State) : AtRest (beforeReturns r s) :=
  freePlayers_atRest (CallKept.queueNotice _ _ _ (setRaised none s)).isRaised

theorem clear_atRest (r : Raised) (s : State) : AtRest (clear r s) := (beforeReturns_atRest r s).decideEach (every 12)

/-! ## The channels -/

theorem freePlayers_decisions (s : State) : SameDecisions s (freePlayers s) := by
  have hnone : ∀ t, SameDecisions t (serveNone t) := SameDecisions.refl
  rw [freePlayers_eq]
  exact (clearWhere_decisions (ownedBy .emergency) (every 6) s).trans (hnone _)

theorem beforeReturns_decisions (r : Raised) (s : State) : SameDecisions s (beforeReturns r s) :=
  have hreported : SameDecisions s (reportCleared r (setRaised none s)) :=
    SameDecisions.of_channels (reportCleared_pool r (setRaised none s)).1
  hreported.trans (freePlayers_decisions _)

theorem clear_state (r : Raised) (s : State) (c : ChanNo) :
    ((clear r s).channel c).state = if mustBeOff (s.channel c) then .off
      else if ((clear r s).channel c).primary.isSome then .live else .hold := by
  obtain ⟨hconfig, hgroup, -⟩ := beforeReturns_decisions r s c
  have hstate := decideAll_state (beforeReturns r s) c
  rwa [mustBeOff_congr hconfig hgroup, (beforeReturns_atRest r s).clear, if_neg Bool.false_ne_true, ← clear_eq] at hstate

/-! ## The request -/

theorem clearEmergency_of_raised {q : Req} {r : Raised} {s : State} (h : InHand .clearEmergency q s) (hraised : s.emergency.raised = some r)
    (hinput : s.emergency.input = false) :
    exec (.clearEmergency q) s =
      .next (answerPort q.port
        (ok (.cleared (countChannels (clear r s) .live) (countChannels (clear r s) .hold) (countChannels (clear r s) .off)
          (secondsRaised s r))) (clear r s)) := by
  refine congrArg Host.Outcome.next (h.serve ?_)
  simp [hraised, hinput]

theorem answerPort_emergency (p : PortId) (a : Answer) (s : State) : (answerPort p a s).emergency = s.emergency := by simp

theorem answerPort_mix (p : PortId) (a : Answer) (s : State) : (answerPort p a s).mix = s.mix := by simp

@[simp] theorem answerPort_slots (p : PortId) (a : Answer) (s : State) : (answerPort p a s).slots = s.slots :=
  (congrArg State.slots (answerPort_sameButPorts p a s) :)

/-- The answer to a request changes its port alone, which the roster's frame does not hold. -/
theorem PlanFrame.rosterOnly_answered {s t : State} (h : PlanFrame s t) (p : PortId) (a : Answer) : RosterOnly s (answerPort p a t) := by
  refine h.rosterOnly.trans ?_
  cases p <;> rfl

/-- Settles O46: the players freed leave emergency at rest, and deciding the channels with emergency clear gives it nothing back; each channel's
state is the one that its decision gave it. -/
theorem clearingReturnsChannels : Obligations.ClearingReturnsChannels := by
  intro q r s h hraised hinput
  obtain ⟨hclear, hserves, hassigned, howned⟩ := clear_atRest r s
  have hframe := clear_frame r s
  refine ⟨_, _, _, _, clearEmergency_of_raised h hraised hinput, ?_, fun p => ?_, fun c => ?_, fun p => ?_, fun c => ?_,
    (clear_samePortStates r s).answered, ?_, ?_, hframe.rosterOnly_answered _ _⟩
  · rw [answerPort_emergency]
    exact (clear_callKept r s).raised
  · rw [answerPort_emergency]
    exact hserves p
  · rw [answerPort_emergency]
    exact hassigned c
  · rw [answerPort_player]
    exact howned p
  · rw [answerPort_channel]
    exact clear_state r s c
  · rw [answerPort_fleet]
    exact hframe.fleet
  · rw [answerPort_slots]
    exact hframe.slots

end Sys2Proof.Machine
end

section
/-! PROOFS. The raising of emergency (10 R175, R176), by request and by the evacuation input: the channels and the players that it takes. -/

namespace Sys2Proof.Machine

/-! ## The gains of a channel that enters EMERGENCY (07 R132) -/

/-- Every channel in EMERGENCY has the gain and the tally of its entry. -/
def EntryGains (s : State) : Prop := ∀ c, (s.channel c).state = .emergency → (s.mix.get c).master = 16384 ∧ (s.mix.get c).tally = 0

/-- A channel in EMERGENCY after a decision has entered it by the decision or was in it before. -/
theorem EntryGains.decideChannel (c : ChanNo) {s : State} (h : EntryGains s) : EntryGains (decideChannel c s) := by
  intro k hk
  obtain ⟨-, -, hstate, -⟩ := decideChannel_channel c s k
  rw [hstate] at hk
  rw [decideChannel_mix]
  by_cases hc : c = k
  · subst hc
    rw [if_pos rfl] at hk ⊢
    by_cases hwas : (s.channel c).state = .emergency
    · simpa [mixDecided, hk, hwas] using h c hwas
    · simp [mixDecided, hk, hwas]
  · rw [if_neg hc] at hk ⊢
    exact h k hk

theorem EntryGains.decideEach (cs : List ChanNo) {s : State} (h : EntryGains s) : EntryGains (decideEach cs s) :=
  foldl_keeps (fun _ c ht => ht.decideChannel c) cs h

/-! ## What a raising takes -/

/-- The reports of a raising (10 R176 step 5) leave the pool's records and the signal path as the steps before left them. -/
theorem raise_pool (cause : RaiseCause) (s : State) : SamePool (raiseChannels cause s) (raise cause s) :=
  SamePool.trans (queueNotice_pool ..) (foldl_pool (fun _ _ => queueNotice_pool ..) (preemptedPlayers s) _)

theorem raise_signals (cause : RaiseCause) (s : State) : SameSignals (raiseChannels cause s) (raise cause s) :=
  SameSignals.trans (queueNotice_signals ..) (foldl_signals (fun _ _ => queueNotice_signals ..) (preemptedPlayers s) _)

theorem raise_channel (cause : RaiseCause) (s : State) (c : ChanNo) : (raise cause s).channel c = (raiseChannels cause s).channel c := by
  simp [State.channel, raise_signals cause s]

theorem raise_mix (cause : RaiseCause) (s : State) : (raise cause s).mix = (raiseChannels cause s).mix := by
  simp [raise_signals cause s]

theorem raise_player (cause : RaiseCause) (s : State) (p : PlayerNo) : (raise cause s).player p = (raiseChannels cause s).player p := by
  simp [State.player, raise_pool cause s]

/-- The state in which a raising decides the channels. -/
def beforeDecisions (cause : RaiseCause) (s : State) : State := servePlayers (stopPlayers (setRaised (some ⟨cause, s.siteTime⟩) s))

theorem raiseChannels_eq (cause : RaiseCause) (s : State) : raiseChannels cause s = decideAll (beforeDecisions cause s) := rfl

theorem stopPlayers_decisions (s : State) : SameDecisions s (stopPlayers s) := clearWhere_decisions isBusy (every 6) s

theorem beforeDecisions_decisions (cause : RaiseCause) (s : State) : SameDecisions s (beforeDecisions cause s) :=
  have hraised : SameDecisions s (setRaised (some ⟨cause, s.siteTime⟩) s) := SameDecisions.refl s
  (hraised.trans (stopPlayers_decisions _)).trans (SameDecisions.of_channels (servePlayers_signals _).1)

/-- While emergency is raised every channel that is not OFF is decided EMERGENCY. -/
theorem raise_state (cause : RaiseCause) (s : State) (c : ChanNo) :
    ((raise cause s).channel c).state = if mustBeOff (s.channel c) then .off else .emergency := by
  obtain ⟨hconfig, hgroup, -⟩ := beforeDecisions_decisions cause s c
  have hraised : isRaised (beforeDecisions cause s) = true := ((CallKept.stopPlayers _).trans (CallKept.servePlayers _)).isRaised
  rw [raise_channel, raiseChannels_eq, decideAll_state, mustBeOff_congr hconfig hgroup, hraised, if_pos rfl]

/-- Every channel was outside EMERGENCY before, so that each one in it has entered it. -/
theorem raise_entryGains {s : State} (cause : RaiseCause) (h : ∀ c, (s.channel c).state ≠ .emergency) : EntryGains (raise cause s) := by
  have hbefore : EntryGains (beforeDecisions cause s) := fun c hc => by
    obtain ⟨-, -, hstate, -⟩ := beforeDecisions_decisions cause s c
    exact absurd (hstate.symm.trans hc) (h c)
  intro c hc
  rw [raise_channel] at hc
  rw [raise_mix]
  exact hbefore.decideEach (every 12) c hc

/-- A raising stops every player before it gives any an owner, so that a player that plays afterwards has one. -/
theorem raise_hasOwner {s : State} (cause : RaiseCause) (h : PlayersAgree false s) (p : PlayerNo) : HasOwner ((raise cause s).player p) := by
  obtain ⟨-, hidle⟩ := h.stopPlayers ⟨cause, s.siteTime⟩
  have hstopped : HasOwner ((stopPlayers (setRaised (some ⟨cause, s.siteTime⟩) s)).player p) := fun hbusy => by
    cases (hidle p).symm.trans hbusy
  rw [raise_player]
  exact ((CallKept.servePlayers _).trans (CallKept.decideAll _)).owner p hstopped

/-- A raising has taken the channels and the players, for a cause and at a time. -/
structure Taken (cause : RaiseCause) (s t : State) : Prop where
  raised : t.emergency.raised = some ⟨cause, s.siteTime⟩
  state : ∀ c, (t.channel c).state = if mustBeOff (s.channel c) then .off else .emergency
  gains : EntryGains t
  owner : ∀ p, (t.player p).state ≠ .idle → (t.player p).owner = some .emergency
  frame : PlanFrame s t

theorem raise_taken (cause : RaiseCause) {s : State} (h : PoolAgrees false s) : Taken cause s (raise cause s) := by
  refine ⟨(raise_callKept cause s).raised, raise_state cause s, raise_entryGains cause h.channels, fun p hp => ?_, raise_frame cause s⟩
  have hbusy : isBusy ((raise cause s).player p) = true := bne_iff_ne.2 hp
  obtain ⟨o, ho⟩ := Option.isSome_iff_exists.1 (raise_hasOwner cause h.players p hbusy)
  rwa [((h.raise cause).players.owners p o ((ownedBy_iff _ _).2 ⟨hbusy, ho⟩)).2 rfl] at ho

/-! ## The request and the input -/

theorem raiseEmergency_of_clear {q : Req} {s : State} (h : InHand .raiseEmergency q s) (hclear : isRaised s = false) :
    exec (.raiseEmergency q) s =
      .next (answerPort q.port
        ⟨.ok, { noCond with z := defaultPlaying (raise .request s) == 0 && languagePlayers (raise .request s) == 0 },
          raisedData (raise .request s)⟩ (raise .request s)) := by
  refine congrArg Host.Outcome.next (h.serve ?_)
  simp [hclear]

/-- The evacuation input as taken. -/
def withInput (s : State) : State := { s with emergency := { s.emergency with input := true } }

theorem withInput_frame (s : State) : PlanFrame s (withInput s) := by
  constructor <;> rfl

theorem evacuationInput_of_clear {s : State} (hclear : isRaised s = false) (hphase : s.phase = .running)
    (hinput : s.emergency.input = false) : exec (.evacuationInputChange true) s = .next (raise .input (withInput s)) := by
  have hraise : raiseByInput (withInput s) = raise .input (withInput s) := if_pos (by simpa [withInput, isRaised] using hclear)
  refine congrArg Host.Outcome.next ?_
  rw [← hraise]
  simp [hphase, hinput, withInput]

/-- Settles O45: a raising stops every player before it serves its own and decides the channels, and the reports that follow leave the records. -/
theorem raisingTakesChannels : Obligations.RaisingTakesChannels := by
  intro q s hclear hpool
  obtain ⟨raised, hagrees⟩ := (poolHolds_iff s).1 hpool
  obtain rfl : false = raised := hclear.symm.trans hagrees.players.state
  refine ⟨fun h => ?request, fun hphase hinput => ?input⟩
  case request =>
    obtain ⟨hraised, hstate, hgains, howner, hframe⟩ := raise_taken .request hagrees
    refine ⟨_, _, _, raiseEmergency_of_clear h hclear, ⟨?_, fun c => ?_, fun c => ?_, fun p => ?_, ?_, ?_,
      hframe.rosterOnly_answered _ _⟩, (raise_samePortStates .request s).answered⟩
    · rw [answerPort_emergency]
      exact hraised
    · rw [answerPort_channel]
      exact hstate c
    · rw [answerPort_channel, answerPort_mix]
      exact hgains c
    · rw [answerPort_player]
      exact howner p
    · rw [answerPort_fleet]
      exact hframe.fleet
    · rw [answerPort_slots]
      exact hframe.slots
  case input =>
    have hagreesInput : PoolAgrees false (withInput s) :=
      ⟨hagrees.players.of_parts (fun _ => PartKept.refl _) (fun _ => rfl) rfl rfl rfl, hagrees.channels⟩
    obtain ⟨hraised, hstate, hgains, howner, hframe⟩ := raise_taken .input hagreesInput
    exact ⟨_, evacuationInput_of_clear hclear hphase hinput,
      ⟨hraised, hstate, hgains, howner, hframe.fleet, hframe.slots, ((withInput_frame s).trans hframe).rosterOnly⟩,
      (raise_callKept .input (withInput s)).input⟩

end Sys2Proof.Machine
end

section
/-! PROOFS. Requests that change nothing but their port: a form that does not fit, a request not in hand, and the requests about ports and
notices (11 R186, R187, R197, R199). -/

namespace Sys2Proof.Machine

/-! ## A request's row is its taking -/

/-- A request row is one serving of its request. Save Site Record, which reads its form from the request's bytes, is left to
`exec_saveSiteRecord_eq`. -/
theorem exec_eq_serve {i : Instr} {cmd : Command} {q : Req} (hi : requestOf i = some (cmd, q)) (hsave : cmd ≠ .saveSiteRecord)
    (s : State) : ∃ body, exec i s = .next (serve cmd q body s) := by
  cases i with
  | saveSiteRecord => cases hi; exact absurd rfl hsave
  | _ => cases hi <;> exact ⟨_, rfl⟩

/-- A save row is one serving of its request too, when its form is the one that the request's bytes spell. -/
theorem exec_saveSiteRecord_eq (q : Req) (form : Option SaveForm) (s : State) :
    ∃ body, exec (.saveSiteRecord q form) s = .next (if namesForm q form s = true then serve .saveSiteRecord q body s else s) :=
  ⟨_, rfl⟩

/-- Of a length that fits no form the bytes spell nothing that a row could contradict. -/
theorem namesForm_of_unfit {q : Req} {s : State} (form : Option SaveForm) (hunfit : formFits .saveSiteRecord q s = false) :
    namesForm q form s = true := by
  simp [namesForm, hunfit]

theorem eq_saveSiteRecord {i : Instr} {q : Req} (hi : requestOf i = some (.saveSiteRecord, q)) : ∃ form, i = .saveSiteRecord q form := by
  cases i with
  | saveSiteRecord _ form => cases hi; exact ⟨form, rfl⟩
  | _ => cases hi

theorem exec_unfit {i : Instr} {cmd : Command} {q : Req} {s : State} (hi : requestOf i = some (cmd, q))
    (hhanded : handedOn cmd (s.port q.port) = true) (hunfit : formFits cmd q s = false) :
    exec i s = .next (answerPort q.port (refuse .badLength) s) := by
  by_cases hsave : cmd = .saveSiteRecord
  · subst hsave
    obtain ⟨form, rfl⟩ := eq_saveSiteRecord hi
    obtain ⟨body, hrun⟩ := exec_saveSiteRecord_eq q form s
    rw [hrun, if_pos (namesForm_of_unfit form hunfit), serve_unfit hhanded hunfit]
  · obtain ⟨body, hrun⟩ := exec_eq_serve hi hsave s
    rw [hrun, serve_unfit hhanded hunfit]

theorem exec_not_handedOn {i : Instr} {cmd : Command} {q : Req} {s : State} (hi : requestOf i = some (cmd, q))
    (hidle : handedOn cmd (s.port q.port) = false) : exec i s = .next s := by
  by_cases hsave : cmd = .saveSiteRecord
  · subst hsave
    obtain ⟨form, rfl⟩ := eq_saveSiteRecord hi
    obtain ⟨body, hrun⟩ := exec_saveSiteRecord_eq q form s
    rw [hrun, serve_idle hidle, ite_self]
  · obtain ⟨body, hrun⟩ := exec_eq_serve hi hsave s
    rw [hrun, serve_idle hidle]

/-- Settles O11: a request row is one serving of its request, which judges first whether the request is in hand and then whether its form
fits. -/
theorem unfitRequestsChangeNothing : Obligations.UnfitRequestsChangeNothing :=
  fun _ _ _ _ hi => ⟨exec_unfit hi, exec_not_handedOn hi⟩

/-! ## An answer at its own port -/

/-- An answer changes nothing of its port but the port's state. -/
theorem answerPort_port_state (p : PortId) (a : Answer) (s : State) (k : PortId) :
    (answerPort p a s).port k = { s.port k with state := ((answerPort p a s).port k).state } := by
  rw [answerPort, State.updPort_port]
  split
  · split <;> rfl
  · rfl

/-- A port that executes a request becomes RESPONSE_READY, and nothing else of it changes. -/
theorem answerPort_port_executing {p : PortId} {s : State} {j : Job} (a : Answer) (hj : (s.port p).state = .executing j) :
    (answerPort p a s).port p = { s.port p with state := .ready ⟨a.status, a.cond, j.tag, a.data⟩ } := by
  rw [answerPort_port_state, answerPort_state hj]

theorem SameButPorts.trans {s t u : State} (h : SameButPorts s t) (k : SameButPorts t u) : SameButPorts s u := by
  have hports := congrArg (fun x : State => { x with desk := s.desk, transmitter := s.transmitter, operations := s.operations }) k
  exact hports.trans h

/-- What an owner writes at a port, and its answer, leave all but the ports alone. -/
theorem answerPort_updPort_sameButPorts (p k : PortId) (f : Port → Port) (a : Answer) (s : State) :
    SameButPorts s (answerPort p a (s.updPort k f)) :=
  (updPort_sameButPorts k f s).trans (answerPort_sameButPorts p a _)

/-! ## Fetch Notices (11 R197) -/

/-- A write at a port is told by what it makes of that port's record. -/
theorem updPort_congr {p : PortId} {f g : Port → Port} {s : State} (h : f (s.port p) = g (s.port p)) : s.updPort p f = s.updPort p g := by
  cases p
  all_goals
    simp only [State.port] at h
    simp only [State.updPort, h]

/-- A port whose oldest eight records have been handed over. -/
def fetched (x : Port) : Port := { x with queue := x.queue.drop 8, overflowed := false }

/-- What Fetch Notices answers from a port. -/
def noticesAnswer (x : Port) : Answer :=
  ⟨.ok, ⟨false, x.queue.isEmpty, decide (8 < x.queue.length), false⟩, .notices (x.queue.length - 8) x.overflowed (x.queue.take 8)⟩

/-- Records are left exactly when more than eight stood in the queue. -/
theorem isEmpty_drop_eq {α : Type} (n : Nat) (l : List α) : (!(l.drop n).isEmpty) = decide (n < l.length) := by
  rw [Bool.eq_iff_iff]
  simp

theorem exec_fetchNotices {q : Req} {s : State} (h : InHand .fetchNotices q s) :
    exec (.fetchNotices q) s = .next (answerPort q.port (noticesAnswer (s.port q.port)) (s.updPort q.port fetched)) := by
  refine congrArg Host.Outcome.next (h.serve ?_)
  simp only [isEmpty_drop_eq, List.length_drop]
  exact congrArg (done · (noticesAnswer (s.port q.port))) (updPort_congr rfl)

/-- Settles O15: the owner writes the queue and the flag of the request's port, and the answer its state alone. -/
theorem fetchNoticesTakesEight : Obligations.FetchNoticesTakesEight := by
  intro q s h
  have hstates : SamePortStates s (s.updPort q.port fetched) := fun p => by
    rw [State.updPort_port]
    split <;> rfl
  refine ⟨_, exec_fetchNotices h, hstates.answered, ?queue, ?flag, fun p hp => ?others, answerPort_updPort_sameButPorts ..⟩
  case queue => rw [answerPort_port_state, State.updPort_port_self]; rfl
  case flag => rw [answerPort_port_state, State.updPort_port_self]; rfl
  case others => rw [answerPort_other (Ne.symm hp), State.updPort_port, if_neg (Ne.symm hp)]

/-! ## Set Port Options (11 R199) -/

/-- A port with its three options replaced. -/
def withOptions (mask : BitVec 24) (attention invert : Bool) (x : Port) : Port :=
  { x with mask := mask, attention := attention, invert := invert }

/-- What Set Port Options answers of a port. -/
def optionsAnswer (mask : BitVec 24) (attention invert : Bool) (x : Port) : Answer :=
  ⟨.ok, ⟨false, false, false, x.mask == mask && x.attention == attention && x.invert == invert⟩, .options mask attention invert⟩

section
variable {q : Req} {n : Nat} {mask : BitVec 24} {attention invert : Bool} {s : State} {p : PortId}

theorem exec_setPortOptions (h : InHand .setPortOptions q s) (hp : portOf n = some p) (hen : (s.port p).enabled = true) :
    exec (.setPortOptions q n mask attention invert) s =
      .next (answerPort q.port (optionsAnswer mask attention invert (s.port p)) (s.updPort p (withOptions mask attention invert))) := by
  refine congrArg Host.Outcome.next (h.serve ?_)
  simp only [hp, hen, if_true]
  rfl

theorem exec_setPortOptions_range (h : InHand .setPortOptions q s) (hp : portOf n = none) :
    exec (.setPortOptions q n mask attention invert) s = .next (answerPort q.port (refuse .range) s) := by
  refine congrArg Host.Outcome.next (h.serve ?_)
  simp only [hp]

theorem exec_setPortOptions_conflict (h : InHand .setPortOptions q s) (hp : portOf n = some p) (hen : (s.port p).enabled = false) :
    exec (.setPortOptions q n mask attention invert) s = .next (answerPort q.port (refuse .conflict) s) := by
  refine congrArg Host.Outcome.next (h.serve ?_)
  simp [hp, hen]

end

/-- Settles O56: the owner writes the options of the named port, and the answer the state of the request's port alone. -/
theorem portOptionsAreReplaced : Obligations.PortOptionsAreReplaced := by
  intro q n mask attention invert s h
  refine ⟨fun p hp hen => ?_, exec_setPortOptions_range h, fun p => exec_setPortOptions_conflict h⟩
  refine ⟨_, exec_setPortOptions h hp hen, fun hne => ?named, fun j hj => ?own, fun k hk hq => ?third,
    answerPort_updPort_sameButPorts ..⟩
  case named =>
    rw [answerPort_other (Ne.symm hne), State.updPort_port_self]
    rfl
  case own =>
    have hwritten : (s.updPort p (withOptions mask attention invert)).port q.port =
        if q.port = p then withOptions mask attention invert (s.port p) else s.port q.port := by
      rw [State.updPort_port]
      by_cases hpq : p = q.port
      · subst hpq
        simp
      · rw [if_neg hpq, if_neg (Ne.symm hpq)]
    have hstate : ((s.updPort p (withOptions mask attention invert)).port q.port).state = .executing j := by
      rw [State.updPort_port]
      split <;> exact hj
    rw [answerPort_port_executing _ hstate, hwritten]
    rfl
  case third => rw [answerPort_other (Ne.symm hq), State.updPort_port, if_neg (Ne.symm hk)]

end Sys2Proof.Machine
end

section
/-! PROOFS. Transfers at a port (11 R184 to R191): a frame written is judged by the first check it fails, and a read sends the frame that the port's
state calls for. -/

namespace Sys2Proof.Machine

/-! ## Frames written (11 R186, R188) -/

theorem exec_frameWrite {p : PortId} {s : State} (bs : List Byte) (hen : (s.port p).enabled = true) :
    exec (.frameWrite p bs) s = .next (s.updPort p (writeFrame s.straps p bs)) :=
  congrArg Host.Outcome.next (if_pos hen)

section
variable {straps : Straps} {p : PortId} {bs : List Byte} {x : Port}

theorem writeFrame_starting (hstate : x.state = .starting) : writeFrame straps p bs x = x := by
  simp [writeFrame, hstate]

theorem writeFrame_idle (hstate : x.state = .idle) : writeFrame straps p bs x = { x with state := admitFrame straps p bs } := by
  simp [writeFrame, hstate]

theorem writeFrame_executing {j : Job} (hstate : x.state = .executing j) : writeFrame straps p bs x = { x with lost := true } := by
  simp [writeFrame, hstate]

theorem writeFrame_ready {r : Response} (hstate : x.state = .ready r) : writeFrame straps p bs x = { x with lost := true } := by
  simp [writeFrame, hstate]

end

/-- What is done at one port leaves the others alone. -/
theorem updPort_port_of_ne {p k : PortId} (f : Port → Port) (s : State) (hne : k ≠ p) : (s.updPort p f).port k = s.port k := by
  rw [State.updPort_port, if_neg (Ne.symm hne)]

/-- Settles O57: the port's state alone tells what becomes of a frame; in IDLE the checks follow one another as 11 R186 lists them. -/
theorem admissionInOrder : Obligations.AdmissionInOrder := by
  intro p bs s hen
  refine ⟨_, exec_frameWrite bs hen, fun k hne => updPort_port_of_ne _ s hne, updPort_sameButPorts .., ?_⟩
  rw [State.updPort_port_self]
  exact ⟨writeFrame_starting, fun _ => writeFrame_executing, fun _ => writeFrame_ready, writeFrame_idle⟩

/-! ## The frame a port sends (11 R189 to R191) -/

theorem frameBody_eq (st : Status) (cond tag : Byte) (data : List Byte) :
    frameBody st cond tag data = [statusCode st, cond, tag] ++ le 2 data.length ++ data := rfl

theorem condByte_noCond (lost : Bool) : condByte noCond lost = if lost then 0x80 else 0 := by
  cases lost <;> rfl

section
variable {x : Port}

theorem frameOf_starting (hstate : x.state = .starting) : frameOf x = sentFrame x.invert [0xE2, 0, 0, 0, 0] := by
  rw [frameOf, hstate]
  rfl

theorem frameOf_idle (hstate : x.state = .idle) : frameOf x = sentFrame x.invert [0xE0, 0, 0, 0, 0] := by
  rw [frameOf, hstate]
  rfl

theorem frameOf_executing {j : Job} (hstate : x.state = .executing j) :
    frameOf x = sentFrame x.invert [0xE1, if x.lost then 0x80 else 0, j.tag, 1, 0, if j.marker then 1 else 0] := by
  rw [frameOf, hstate]
  simp [frameBody_eq, condByte_noCond, flagByte, le, statusCode]

theorem frameOf_ready {r : Response} (hstate : x.state = .ready r) :
    frameOf x = sentFrame x.invert ([statusCode r.status, condByte r.cond x.lost, r.tag]
      ++ le 2 (dataBytes r.data).length ++ dataBytes r.data) := by
  rw [frameOf, hstate]
  rfl

end

/-! ## Frames read (11 R184, R188, R189) -/

theorem exec_readTransfer {p : PortId} {s : State} (n : Nat) (hen : (s.port p).enabled = true) (hphase : s.phase ≠ .held) :
    exec (.readTransfer p n) s = .next (s.updPort p (readPort n)) := by
  refine congrArg Host.Outcome.next (if_pos ?_)
  simp [hen, isHeld, hphase]

theorem exec_readTransfer_silent {p : PortId} {s : State} (n : Nat) (hsilent : (s.port p).enabled = false ∨ s.phase = .held) :
    exec (.readTransfer p n) s = .next s := by
  refine congrArg Host.Outcome.next (if_neg ?_)
  obtain hdisabled | hheld := hsilent
  · simp [hdisabled]
  · simp [isHeld, hheld]

section
variable {x : Port}

theorem readWhole_ready {r : Response} (hstate : x.state = .ready r) : readWhole x = { x with state := .idle, lost := false } := by
  simp [readWhole, hstate]

theorem readWhole_executing {j : Job} (hstate : x.state = .executing j) :
    readWhole x = { x with state := .executing { j with marker := !j.marker } } := by
  simp [readWhole, hstate]

theorem readWhole_of_no_request (hstate : x.state = .starting ∨ x.state = .idle) : readWhole x = x := by
  obtain h | h := hstate <;> simp [readWhole, h]

theorem readWhole_queue (x : Port) : (readWhole x).queue = x.queue := by
  unfold readWhole
  split <;> rfl

/-- A frame cut short is sent as far as the clock goes, and the port's state stays. -/
theorem readPort_cut {n : Nat} (hcut : n < (frameOf x).length) : readPort n x = { x with sent := clockOut (frameOf x) n } :=
  if_neg (Nat.not_le.2 hcut)

theorem readPort_whole {n : Nat} (hwhole : (frameOf x).length ≤ n) :
    readPort n x = { readWhole x with sent := clockOut (frameOf x) n } :=
  if_pos hwhole

theorem readPort_sent (n : Nat) (x : Port) : (readPort n x).sent = clockOut (frameOf x) n := by
  unfold readPort
  dsimp only
  split <;> rfl

theorem readPort_queue (n : Nat) (x : Port) : (readPort n x).queue = x.queue := by
  unfold readPort
  dsimp only
  split
  · exact readWhole_queue x
  · rfl

end

/-- Settles O58: each port state calls for one frame, and a read that reaches the frame's end, and no other, acts on the port's state. -/
theorem readTransferSendsFrame : Obligations.ReadTransferSendsFrame := by
  intro p n code s
  refine ⟨rfl, exec_readTransfer_silent n, frameOf_starting, frameOf_idle, fun _ => frameOf_executing, fun _ => frameOf_ready,
    fun hen hphase => ⟨_, exec_readTransfer n hen hphase, fun k hne => updPort_port_of_ne _ s hne, updPort_sameButPorts .., ?_⟩⟩
  rw [State.updPort_port_self]
  refine ⟨readPort_sent n _, fun hcut => ?cut, fun hwhole => ?whole, readPort_queue n _⟩
  case cut =>
    rw [readPort_cut hcut]
    exact ⟨rfl, rfl⟩
  case whole =>
    rw [readPort_whole hwhole]
    refine ⟨fun r hr => ?_, fun j hj => ?_, fun hnone => ?_⟩
    · rw [readWhole_ready hr]
      exact ⟨rfl, rfl⟩
    · rw [readWhole_executing hj]
      exact ⟨rfl, rfl⟩
    · rw [readWhole_of_no_request hnone]
      exact ⟨rfl, rfl⟩

end Sys2Proof.Machine
end

section
/-! PROOFS. What the pool, the plan and emergency control do to the notice queues: they append, and while the part does not run they leave the ports
alone (11 R195, R196, 12 R206). -/

namespace Sys2Proof.Machine

/-- The notice queues grow at their tails, and while the part does not run the ports stand. -/
structure QueuesGrow (s t : State) : Prop where
  phase : t.phase = s.phase
  grows : ∀ p, (s.port p).queue <+: (t.port p).queue
  silent : s.phase ≠ .running → ∀ p, t.port p = s.port p

theorem takeNotice_grows (n : Notice) (x : Port) : x.queue <+: (takeNotice n x).queue := by
  unfold takeNotice
  split
  · split
    · exact ⟨[n], rfl⟩
    · exact ⟨[], List.append_nil _⟩
  · exact ⟨[], List.append_nil _⟩

namespace QueuesGrow

variable {s : State}

/-- What leaves the ports and the phase alone. -/
theorem of_ports {t : State} (hphase : t.phase = s.phase) (hdesk : t.desk = s.desk) (htransmitter : t.transmitter = s.transmitter)
    (hoperations : t.operations = s.operations) : QueuesGrow s t := by
  have hports : ∀ p, t.port p = s.port p
    | .desk => hdesk
    | .transmitter => htransmitter
    | .operations => hoperations
  exact ⟨hphase, fun p => ⟨[], by rw [hports p, List.append_nil]⟩, fun _ => hports⟩

theorem refl (s : State) : QueuesGrow s s := of_ports rfl rfl rfl rfl

theorem trans {t u : State} (h : QueuesGrow s t) (k : QueuesGrow t u) : QueuesGrow s u :=
  ⟨k.phase.trans h.phase, fun p => (h.grows p).trans (k.grows p),
    fun hrest p => (k.silent (h.phase ▸ hrest) p).trans (h.silent hrest p)⟩

theorem foldl {α : Type} {f : State → α → State} (h : ∀ s a, QueuesGrow s (f s a)) (l : List α) (s : State) :
    QueuesGrow s (l.foldl f s) :=
  List.foldlRecOn (motive := QueuesGrow s) l f (refl s) fun t ht a _ => ht.trans (h t a)

theorem queueNotice (k : NoticeKind) (j : Subject) (d : Detail) (s : State) : QueuesGrow s (queueNotice k j d s) := by
  refine ⟨rfl, fun p => ?_, fun hrest p => ?_⟩
  · simp only [Machine.queueNotice, State.eachPort_port]
    split
    · exact takeNotice_grows _ _
    · exact ⟨[], List.append_nil _⟩
  · simp only [Machine.queueNotice, State.eachPort_port, if_neg hrest]

/-! ## Operations that write no port -/

theorem updPlayer (p : PlayerNo) (f : Player → Player) (s : State) : QueuesGrow s (s.updPlayer p f) :=
  of_ports rfl rfl rfl rfl

theorem updChannel (c : ChanNo) (f : Channel → Channel) (s : State) : QueuesGrow s (s.updChannel c f) :=
  of_ports rfl rfl rfl rfl

theorem updMix (c : ChanNo) (f : Mix → Mix) (s : State) : QueuesGrow s (s.updMix c f) :=
  of_ports rfl rfl rfl rfl

theorem updPath (f : ReadPath → ReadPath) (s : State) : QueuesGrow s (s.updPath f) := of_ports rfl rfl rfl rfl

theorem setHoldPlayer (v : Option PlayerNo) (cs : List ChanNo) (s : State) : QueuesGrow s (setHoldPlayer v cs s) :=
  of_ports rfl rfl rfl rfl

theorem setAssigned (c : ChanNo) (v : Option PlayerNo) (s : State) : QueuesGrow s (setAssigned c v s) :=
  of_ports rfl rfl rfl rfl

theorem setServes (p : PlayerNo) (v : Option Lang) (s : State) : QueuesGrow s (setServes p v s) :=
  of_ports rfl rfl rfl rfl

theorem setRaised (v : Option Raised) (s : State) : QueuesGrow s (setRaised v s) := of_ports rfl rfl rfl rfl

theorem meetReads (s : State) : QueuesGrow s (meetReads s) := by
  unfold Machine.meetReads
  split
  · exact of_ports rfl rfl rfl rfl
  · exact refl s

theorem placeRead (p : PlayerNo) (s : State) : QueuesGrow s (placeRead p s) := by
  unfold Machine.placeRead
  split
  · exact (updPlayer ..).trans (meetReads _)
  · exact refl s

/-! ## The player pool (09) -/

theorem allocate (p : PlayerNo) (clip : Nat) (o : Owner) (loops : Nat) (cs : List ChanNo) (s : State) :
    QueuesGrow s (allocate p clip o loops cs s) := by
  unfold Machine.allocate
  dsimp only
  split
  · exact ((updPlayer ..).trans (setHoldPlayer ..)).trans (placeRead ..)
  · exact (updPlayer ..).trans (placeRead ..)

theorem clearPlayer (p : PlayerNo) (s : State) : QueuesGrow s (clearPlayer p s) := by
  unfold Machine.clearPlayer
  dsimp only
  split
  · exact ((updPath ..).trans (setHoldPlayer ..)).trans (updPlayer ..)
  · exact (updPath ..).trans (updPlayer ..)

theorem offerRounds (n : Nat) (s : State) : QueuesGrow s (offerRounds n s) := by
  induction n generalizing s with
  | zero => exact refl s
  | succ n ih =>
    unfold Machine.offerRounds
    split
    · exact (allocate ..).trans (ih _)
    · exact refl s

theorem endPlay (p : PlayerNo) (e : PlayEnd) (s : State) : QueuesGrow s (endPlay p e s) := by
  unfold Machine.endPlay
  dsimp only
  split
  · exact ((clearPlayer p s).trans (queueNotice ..)).trans (offerRounds 6 _)
  · exact (clearPlayer p s).trans (offerRounds 6 _)

theorem requestHold (c : ChanNo) (clip : Nat) (s : State) : QueuesGrow s (requestHold c clip s) := by
  unfold Machine.requestHold
  split
  · exact (updPlayer ..).trans (setHoldPlayer ..)
  · split
    · split
      · exact allocate ..
      · exact refl s
    · exact refl s

theorem leaveHold (c : ChanNo) (s : State) : QueuesGrow s (leaveHold c s) := by
  unfold Machine.leaveHold
  split
  · exact refl s
  · next p _ =>
    have hleft : QueuesGrow s (Machine.setHoldPlayer none [c] (leavePlayer p c s)) := (updPlayer ..).trans (setHoldPlayer ..)
    dsimp only
    split
    · exact hleft.trans (endPlay ..)
    · exact hleft

/-! ## The channel plan (06) -/

theorem enterHold (c : ChanNo) (s : State) : QueuesGrow s (enterHold c s) := by
  unfold Machine.enterHold
  dsimp only
  split
  · exact (queueNotice ..).trans (requestHold ..)
  · exact queueNotice ..

theorem assignTo (c : ChanNo) (v : Option PlayerNo) (s : State) : QueuesGrow s (assignTo c v s) := by
  cases v with
  | none => exact setAssigned c none s
  | some p => exact (setAssigned c (some p) s).trans (updPlayer ..)

theorem unassignEmergency (c : ChanNo) (s : State) : QueuesGrow s (unassignEmergency c s) := by
  unfold Machine.unassignEmergency
  split
  · exact (updPlayer ..).trans (setAssigned ..)
  · exact refl s

theorem leaveState (c : ChanNo) (old new : ChannelState) (s : State) : QueuesGrow s (leaveState c old new s) := by
  unfold Machine.leaveState
  split
  · exact leaveHold c s
  · split
    · exact (unassignEmergency c s).trans (updMix ..)
    · exact refl s

theorem enterState (c : ChanNo) (old new : ChannelState) (s : State) : QueuesGrow s (enterState c old new s) := by
  unfold Machine.enterState
  split
  · exact enterHold c s
  · split
    · exact (assignTo c _ s).trans (updMix ..)
    · exact refl s

theorem decideChannel (c : ChanNo) (s : State) : QueuesGrow s (decideChannel c s) :=
  ((updChannel c _ s).trans (leaveState ..)).trans (enterState ..)

theorem decideAll (s : State) : QueuesGrow s (decideAll s) := foldl (fun t c => decideChannel c t) (every 12) s

/-! ## Emergency control (10) -/

theorem serveDefault (s : State) : QueuesGrow s (serveDefault s) := by
  unfold Machine.serveDefault
  split
  · split
    · exact allocate ..
    · exact refl s
  · exact refl s

theorem serveLanguage (l : Lang) (s : State) : QueuesGrow s (serveLanguage l s) := by
  unfold Machine.serveLanguage
  split
  · exact (allocate ..).trans (setServes ..)
  · exact refl s

theorem servePlayers (s : State) : QueuesGrow s (servePlayers s) :=
  (serveDefault s).trans (foldl (fun t l => serveLanguage l t) _ _)

theorem clearIf (b : Bool) (p : PlayerNo) (s : State) : QueuesGrow s (if b = true then Machine.clearPlayer p s else s) := by
  cases b
  · exact refl s
  · exact clearPlayer p s

theorem stopPlayers (s : State) : QueuesGrow s (stopPlayers s) := foldl (fun t p => clearIf (isBusy (t.player p)) p t) (every 6) s

theorem raise (cause : RaiseCause) (s : State) : QueuesGrow s (raise cause s) :=
  have hdecided := (((setRaised _ s).trans (stopPlayers _)).trans (servePlayers _)).trans (decideAll _)
  (hdecided.trans (queueNotice ..)).trans (foldl (fun _ _ => queueNotice ..) (preemptedPlayers s) _)

theorem raiseByInput (s : State) : QueuesGrow s (raiseByInput s) := by
  unfold Machine.raiseByInput
  split
  · exact raise .input s
  · exact refl s

end QueuesGrow

theorem raiseByInput_samePortStates (s : State) : SamePortStates s (raiseByInput s) := by
  unfold raiseByInput
  split
  · exact raise_samePortStates .input s
  · exact SamePortStates.refl s

end Sys2Proof.Machine
end

section
/-! PROOFS. The end of start-up (12 R206): the channels decided, the ports opened with STARTUP, and emergency raised by an active input. -/

namespace Sys2Proof.Machine

/-! ## The state that a decision gives is the one that the table gives afterwards (06 R111, R112) -/

theorem PlanFrame.primarySource {s t : State} (h : PlanFrame s t) (hconfigs : SameConfigs s t) (c : ChanNo) :
    primarySource t c = primarySource s c := by
  obtain ⟨hconfig, hgroup⟩ := hconfigs c
  simp only [Machine.primarySource, resolvedSource, carriedOn, State.group, hconfig, hgroup, h.groups, h.links, h.presence]

theorem decideChannel_primarySource (d : ChanNo) (s : State) (c : ChanNo) : primarySource (decideChannel d s) c = primarySource s c :=
  (decideChannel_frame d s).primarySource (decideChannel_configs d s) c

/-- Every channel decided holds the primary that its source gives it, before the decisions and after. -/
theorem decideEach_primary (cs : List ChanNo) {s : State} (hrest : ∀ c, c ∉ cs → (s.channel c).primary = primarySource s c) (c : ChanNo) :
    ((decideEach cs s).channel c).primary = primarySource s c := by
  induction cs generalizing s with
  | nil => exact hrest c List.not_mem_nil
  | cons d cs ih =>
    rw [← decideChannel_primarySource d s c]
    refine ih fun k hk => ?_
    obtain ⟨-, -, -, hprimary⟩ := decideChannel_channel d s k
    rw [hprimary, decideChannel_primarySource]
    split
    · next hd => rw [hd]
    · next hd => exact hrest k fun hmem => (List.mem_cons.1 hmem).elim (fun he => hd he.symm) hk

/-- The decisions done, every channel stands in the state that the table gives it. -/
theorem decideAll_decidedState (s : State) (c : ChanNo) : ((decideAll s).channel c).state = decidedState (decideAll s) c := by
  have hconfigs := decideEach_configs (every 12) s
  obtain ⟨hconfig, hgroup⟩ := hconfigs c
  have hprimary : ((decideAll s).channel c).primary = primarySource (decideAll s) c :=
    (decideEach_primary (every 12) (fun k hk => absurd (mem_every k) hk) c).trans
      ((decideAll_frame s).primarySource hconfigs c).symm
  rw [decideAll_state, hprimary, ← mustBeOff_congr hconfig hgroup, ← (CallKept.decideAll s).isRaised]
  rfl

/-! ## The ports opened (11 R185, 12 R206 step 6) -/

theorem openPorts_port (s : State) (p : PortId) :
    (openPorts s).port p = openPort (takeNotice ⟨.startup, .none, startUpDetail s, s.siteTime⟩ (s.port p)) := by
  cases p <;> rfl

theorem openPort_queue (x : Port) : (openPort x).queue = x.queue := by
  unfold openPort
  split
  · split <;> rfl
  · rfl

theorem openPort_starting {x : Port} (hen : x.enabled = true) (hstate : x.state = .starting) : (openPort x).state = .idle := by
  simp [openPort, hstate, hen]

theorem takeNotice_enabled (n : Notice) (x : Port) : (takeNotice n x).enabled = x.enabled := by
  unfold takeNotice
  repeat' split
  all_goals rfl

/-- STARTUP reaches every enabled port, whatever its mask holds (11 R195). -/
theorem takeNotice_startup {n : Notice} {x : Port} (hkind : n.kind = .startup) (hen : x.enabled = true) (hqueue : x.queue = []) :
    (takeNotice n x).queue = [n] := by
  simp [takeNotice, bypassesMask, hkind, hen, hqueue]

theorem openPorts_idle {s : State} {p : PortId} (hen : (s.port p).enabled = true) (hstate : (s.port p).state = .starting) :
    ((openPorts s).port p).state = .idle := by
  rw [openPorts_port]
  exact openPort_starting ((takeNotice_enabled _ _).trans hen) ((takeNotice_state _ _).trans hstate)

theorem openPorts_queue {s : State} {p : PortId} (hen : (s.port p).enabled = true) (hqueue : (s.port p).queue = []) :
    ((openPorts s).port p).queue = [⟨.startup, .none, startUpDetail s, s.siteTime⟩] := by
  rw [openPorts_port, openPort_queue]
  exact takeNotice_startup rfl hen hqueue

theorem openPorts_frame (s : State) : PlanFrame { s with phase := .running } (openPorts s) := by
  constructor <;> simp [openPorts, queueNotice]

theorem openPorts_emergency (s : State) : (openPorts s).emergency = s.emergency := rfl

/-- Opening the ports reaches nothing that a decision reads. -/
theorem openPorts_decidedState (s : State) (c : ChanNo) : decidedState (openPorts s) c = decidedState s c := rfl

theorem openPorts_channel (s : State) (c : ChanNo) : (openPorts s).channel c = s.channel c := rfl

/-- The record's status stands in bit 0 and the kind of reset above it (12 R206). -/
theorem startUpDetail_status (s : State) :
    (startUpDetail s).b0.toNat = (if s.recordValid then 0 else 1) + 2 * resetCode s.resetKind := by
  unfold startUpDetail detail
  cases s.recordValid <;> cases s.resetKind <;> rfl

/-! ## The end of start-up -/

theorem PlanFrame.withPhase {s t : State} (h : PlanFrame s t) (phase : RunPhase) :
    PlanFrame { s with phase := phase } { t with phase := phase } := { h with phase := rfl }

theorem startUpDue_of_polled {s : State} (hphase : s.phase = .startUp) (hpolled : ∀ r, s.startUp.polled.get r = true)
    (hidentify : ∀ i, ¬((s.slot i).state = .identify ∧ (s.slot i).attempting = true)) : startUpDue s = true := by
  have hall : s.startUp.polled.cells.all id = true := List.all_eq_true.2 fun b hb => by
    obtain ⟨r, rfl⟩ := Table.mem_cells.1 hb
    exact hpolled r
  have hnone : ((every 64).all fun i => !awaitsSerial s i) = true := List.all_eq_true.2 fun i _ => by
    have hnot : awaitsSerial s i = false := Bool.eq_false_iff.2 fun hwaits => by
      simp only [awaitsSerial, Bool.and_eq_true, beq_iff_eq] at hwaits
      exact hidentify i hwaits
    rw [hnot]
    rfl
  simp [startUpDue, hphase, hall, hnone]

/-- The state in which start-up ends. -/
def started (s : State) : State := raiseByInput (openPorts (decideAll s))

theorem exec_startupEnd {s : State} (hdue : startUpDue s = true) : exec .startupEnd s = .next (started s) :=
  congrArg Host.Outcome.next (if_pos hdue)

theorem started_frame (s : State) : PlanFrame { s with phase := .running } (started s) :=
  (((decideAll_frame s).withPhase .running).trans (openPorts_frame _)).trans (raiseByInput_frame _)

theorem started_of_quiet {s : State} (hinput : s.emergency.input = false) :
    started s = openPorts (decideAll s) := by
  have hquiet : (openPorts (decideAll s)).emergency.input = false := by
    rw [openPorts_emergency]
    exact (CallKept.decideAll s).input.trans hinput
  simp [started, raiseByInput, hquiet]

/-- While start-up runs the decisions leave the ports alone, so STARTUP finds the queues as start-up began. -/
theorem decideAll_port {s : State} (hphase : s.phase = .startUp) (p : PortId) : (decideAll s).port p = s.port p :=
  (QueuesGrow.decideAll s).silent (by simp [hphase]) p

/-- Settles O60: the decisions queue nothing while start-up runs, STARTUP goes into them as the ports leave STARTING, and what an active input raises
comes after it. -/
theorem startUpOpensPorts : Obligations.StartUpOpensPorts := by
  intro s hphase hpolled hidentify
  have hframe := started_frame s
  have hport := decideAll_port hphase
  refine ⟨_, exec_startupEnd (startUpDue_of_polled hphase hpolled hidentify), hframe.phase, fun p hen hstate => ?idle,
    fun p hen hqueue => ?queue, fun c _ hinput => ?decided, hframe.fleet, hframe.slots, ?rest⟩
  case idle =>
    rw [← hport p] at hen hstate
    exact (raiseByInput_samePortStates _ p).trans (openPorts_idle hen hstate)
  case queue =>
    rw [← hport p] at hen hqueue
    obtain ⟨rest, hrest⟩ := (QueuesGrow.raiseByInput (openPorts (decideAll s))).grows p
    rw [openPorts_queue hen hqueue, (decideAll_frame s).siteTime] at hrest
    refine ⟨startUpDetail (decideAll s), rest, hrest.symm, ?_⟩
    rw [startUpDetail_status, (decideAll_frame s).recordValid, (decideAll_frame s).resetKind]
  case decided =>
    rw [started_of_quiet hinput, openPorts_channel, openPorts_decidedState]
    exact decideAll_decidedState s c
  case rest =>
    rw [hframe.phase]
    exact hframe.rosterOnly

end Sys2Proof.Machine
end

section
/-! PROOFS. One step of the machine (95_what_each_step_holds): the front command is taken, or the part idles (log 5). -/

namespace Sys2Proof.Machine

/-- The front command leaves the queue before it acts: it runs on the state that holds only the commands behind it. -/
theorem step_of_pending_cons {s : State} {i : Instr} {rest : List Instr} (h : s.pending = i :: rest) :
    step s = exec i { s with pending := rest } := by
  simp only [step, h]

theorem step_of_pending_nil {s : State} (h : s.pending = []) : step s = .next s := by
  simp only [step, h]

/-- Settles O1, by the two forms of the queue. -/
theorem stepTakesFront : Obligations.StepTakesFront :=
  ⟨fun _ _ _ => step_of_pending_cons, fun _ => step_of_pending_nil⟩

end Sys2Proof.Machine
end
